-- ==== Sys2Proof/Word.lean ====
section
/-! DEFINITION. The byte of the control link and the plainest arithmetic every block shares: explicit clamps
(section 6.3 of 00_scope.md) and fixed-size tables. -/

namespace Sys2Proof

/-- One byte of the control link or of the non-volatile store. -/
abbrev Byte := BitVec 8

/-- "clamped to a..b" over the integers (00_scope.md, 6.3). -/
def clampInt (lo hi x : Int) : Int := if x < lo then lo else if hi < x then hi else x

/-- "clamped to a..b" over the naturals (00_scope.md, 6.3). -/
def clampNat (lo hi x : Nat) : Nat := if x < lo then lo else if hi < x then hi else x

/-- The table whose entry `i` is `f i`. -/
def tab {α : Type} {n : Nat} (f : Fin n → α) : Vector α n := Vector.ofFn f

/-- The table `t` with entry `i` replaced by its image under `f`. -/
def upd {α : Type} {n : Nat} (t : Vector α n) (i : Fin n) (f : α → α) : Vector α n := t.set i (f t[i])

end Sys2Proof
end

