-- ==== Sys2Proof/Config.lean ====
section
/-! DEFINITION. The constants the manual fixes and the free values it leaves open. A free value is an opaque constant:
nothing in Lean can evaluate it, so every claim holds whatever it is. -/

namespace Sys2Proof

/-- The nominal entry E_nom[k] = 5461 × (k + 2) of point `k` (R53, R160). -/
def Config.nominalEntry (k : Nat) : Nat := 5461 * (k + 2)

/-- The supply threshold of every programming operation (R106, R132). -/
def Config.supplyThreshold : Nat := 2900

/-- The reset value of the tuning reference T (R149). -/
def Config.defaultReference : Nat := 305781

/-- FREE VALUE (log entry 8). The SEC count that RECALL_DONE carries when a step recall has found no VALID tag: R140 gives
the report and R129 the SEC count of a slot read, of which there was none. Arguments: the slot first examined, the SEC count
of the statistics, and the bits of the store now in error. -/
opaque Config.emptySearchSec : Nat → Nat → List (Nat × BitVec 72) → BitVec 8

/-- FREE VALUE (log entry 10). What reading a block of the store gives when three or more of its 72 bits are in error:
R128 says the check then finds no error (0), one bit (1) or two bits (2, and here 3) in error, and may deliver wrong
data; it gives neither the code nor the result. Arguments: the data last programmed and the bits now in error. -/
opaque Config.heavyRead : BitVec 64 → BitVec 72 → BitVec 2 × BitVec 64

/-- FREE VALUE (log entry 19). The pickup mode taken from a setup area whose byte 52 holds neither code 0 nor code 1:
R107 says only that the mode becomes the stored one. The value `true` stands for CATCH. -/
opaque Config.storedPickupMode : BitVec 8 → Bool

end Sys2Proof
end

