-- ==== Sys2Proof/Syntax.lean ====
section
/-! DEFINITION. The commands of the part: one constructor of `Instr` per row of spec/opcode_table.json. A request's
operands are the fields of its frame (11_frame_and_record_formats.md, 11.3); an event's operands are what the outside
world supplies with it (an ADC result, sensed columns, counted clocks, what the memory cells physically took). -/

namespace Sys2Proof

/-- Bits of the store in error: a block number and the mask of the bits of that block, 64 data bits below 8 check bits. -/
abbrev BlockBits := Nat × BitVec 72

/-- How a tap signal crosses a comparator threshold (R157). -/
inductive TapCrossing where
  /-- The upper threshold is crossed upward after the tap has been below the lower one. -/
  | upperAfterLower
  /-- The lower threshold is crossed downward after the tap has been above the upper one. -/
  | lowerAfterUpper
  /-- The single mid threshold is crossed upward. -/
  | midRising
  /-- The single mid threshold is crossed downward. -/
  | midFalling
  deriving DecidableEq, Repr

/-- What the cells took when the blocks that mark a slot or an area as valid were programmed (step 6 of R132). -/
structure MarkProgram where
  /-- Whether the marking blocks took the new contents; if not, they are still erased. -/
  took : Bool
  /-- Bits of the marking blocks left in error. -/
  errors : List BlockBits
  deriving DecidableEq, Repr

/-- The twelve bytes of a SET_VOICE_SETUP body, in the order of R22. -/
structure SetupBytes where
  mode : Byte
  stack : Byte
  assign : Byte
  steal : Byte
  keepTop : Byte
  returning : Byte
  priority : Byte
  retrigger : Byte
  glide : Byte
  bendRange : Byte
  gap : Byte
  width : Byte
  deriving DecidableEq, Repr

/-- The eight bytes of a SET_TUNE_DEFAULTS body (R150). -/
structure DefaultsBytes where
  scope : Byte
  depth : Byte
  force : Byte
  save : Byte
  disableFailed : Byte
  settle : Byte
  hysteresis : Byte
  polarity : Byte
  deriving DecidableEq, Repr

/-- The commands. -/
inductive Instr where
  /-- POWER_ON (R146): the supply rises. -/
  | powerOn
  /-- RESET_ASSERT (R133): the RESET pin goes low. `half`: a memory operation cut short leaves a marking block half-programmed. -/
  | resetAssert (half : Bool)
  /-- RESET_RELEASE (R146): the RESET pin goes high. -/
  | resetRelease
  /-- TICK (R6): the 1 ms tick. `drift`: bits of the store that have changed since the tick before (R128). -/
  | tick (drift : List BlockBits)
  /-- MORPH_END (R84) of one parameter. -/
  | morphEnd (p : Fin 64)
  /-- GAP_EXPIRY (R9) of one voice. -/
  | gapExpiry (v : Fin 8)
  /-- TRIGGER_EXPIRY (R10) of one voice. -/
  | triggerExpiry (v : Fin 8)
  /-- RELEASE_END (R13) of one voice. -/
  | releaseEnd (v : Fin 8)
  /-- BLINK_PHASE_CHANGE (R122). -/
  | blinkPhaseChange
  /-- WAIT_LIMIT_EXPIRY (R155). -/
  | waitLimitExpiry
  /-- SETTLE_EXPIRY (R158) of one measurement channel. -/
  | settleExpiry (c : Fin 4)
  /-- FIRST_EDGE_TIMEOUT (R159) of one measurement channel. -/
  | firstEdgeTimeout (c : Fin 4)
  /-- COUNTING_TIMEOUT (R159) of one channel; `clocks`: reference clocks since its period counter was last brought up to date. -/
  | countingTimeout (c : Fin 4) (clocks : Nat)
  /-- TAP_EDGE (R157): a threshold crossing of one tap; `clocks` as for COUNTING_TIMEOUT. -/
  | tapEdge (tap : Fin 16) (crossing : TapCrossing) (clocks : Nat)
  /-- SLOT_COMPLETION (R67). -/
  | slotCompletion
  /-- KNOB_SETTLE_END (R93). -/
  | knobSettleEnd
  /-- KNOB_CONVERSION_COMPLETE (R95) with the ADC result. -/
  | knobConversionComplete (adc : BitVec 12)
  /-- SUPPLY_CONVERSION_COMPLETE (R106) with the ADC result. -/
  | supplyConversionComplete (adc : BitVec 12)
  /-- ROW_STEP_END (R111) with the sensed columns of the driven row; a set bit is a switch that is down. -/
  | rowStepEnd (columns : Byte)
  /-- TAG_EXAMINE_COMPLETE (R140). -/
  | tagExamineComplete
  /-- HEADING_READ_COMPLETE (R139, R140). -/
  | headingReadComplete
  /-- ERASE_COMPLETE (R132). -/
  | eraseComplete
  /-- PROGRAM_COMPLETE (R132); `errors`: bits of the target's blocks that the cells took wrongly. -/
  | programComplete (errors : List BlockBits)
  /-- RECALL_COMPLETE (R134). -/
  | recallComplete
  /-- STORE_COMPLETE (R136). -/
  | storeComplete (mark : MarkProgram)
  /-- PATCH_WRITE_COMPLETE (R137). -/
  | patchWriteComplete (mark : MarkProgram)
  /-- PATCH_READ_COMPLETE (R138). -/
  | patchReadComplete
  /-- PATCH_INFO_COMPLETE (R138). -/
  | patchInfoComplete
  /-- PROTECT_COMPLETE (R139). -/
  | protectComplete (mark : MarkProgram)
  /-- TUNING_SAVE_COMPLETE (R141). -/
  | tuningSaveComplete (mark : MarkProgram)
  /-- SETUP_SAVE_COMPLETE (R142). -/
  | setupSaveComplete (mark : MarkProgram)
  /-- SETUP_LOAD_COMPLETE (R144). -/
  | setupLoadComplete
  /-- TUNING_LOAD_COMPLETE (R144). -/
  | tuningLoadComplete
  /-- SLOT_LOAD_COMPLETE (R145). -/
  | slotLoadComplete
  /-- RECEIVE_BYTE (R172): a good byte. -/
  | receiveByte (b : Byte)
  /-- FRAMING_ERROR (R173). -/
  | framingError
  /-- BREAK (R171). -/
  | lineBreak
  /-- GAP_TIMEOUT (R173). -/
  | gapTimeout
  /-- HUNT_END (R173). -/
  | huntEnd
  /-- BAD_KIND (R175): a sound frame whose kind names no request and no play message. -/
  | badKind (kind : Byte)
  /-- TX_FRAME_END (R181). -/
  | txFrameEnd
  /-- NOTE_ON (R24). -/
  | noteOn (key velocity : Byte)
  /-- NOTE_OFF (R31). -/
  | noteOff (key velocity : Byte)
  /-- PEDAL (R38). -/
  | pedal (state : Byte)
  /-- BEND (R39). -/
  | bend (value : BitVec 16)
  /-- ALL_OFF (R40). -/
  | allOff (cut : Byte)
  /-- VOICE_ENABLE (R16). -/
  | voiceEnable (voices direction : Byte)
  /-- GET_VOICE (R17). -/
  | getVoice (voice : Byte)
  /-- SET_VOICE_SETUP (R41). -/
  | setVoiceSetup (setup : SetupBytes)
  /-- SET_PARAM (R81). -/
  | setParam (index : Byte) (value : BitVec 16)
  /-- GET_PARAM (R89). -/
  | getParam (index : Byte)
  /-- SET_MORPH_TIME (R88). -/
  | setMorphTime (time : BitVec 16)
  /-- MAP_KNOB (R98). -/
  | mapKnob (knob param : Byte)
  /-- SET_PICKUP_MODE (R99). -/
  | setPickupMode (mode : Byte)
  /-- SET_KNOB_SCAN (R104). -/
  | setKnobScan (banks offset : Byte) (deadband : BitVec 16)
  /-- GET_KNOB (R105). -/
  | getKnob (knob : Byte)
  /-- SET_SWITCH (R119). -/
  | setSwitch (switch spec action slot : Byte)
  /-- SET_DEBOUNCE (R119). -/
  | setDebounce (depth : Byte)
  /-- SET_GROUP (R120): the 3-bit condition code of switch i at bits 3i..3i + 2. -/
  | setGroup (group : Byte) (conditions : BitVec 192) (latched action slot : Byte)
  /-- SET_LAMPS (R123): the 2-bit state code of lamp i at bits 2i..2i + 1. -/
  | setLamps (mask : BitVec 64) (states : BitVec 128)
  /-- SET_LAMP_BINDING (R123). -/
  | setLampBinding (lamp binding : Byte)
  /-- SET_BLINK (R122). -/
  | setBlink (onTime offTime : BitVec 16)
  /-- GET_SWITCH (R124). -/
  | getSwitch (switch : Byte)
  /-- GET_PANEL (R124). -/
  | getPanel (part : Byte)
  /-- RECALL (R134). -/
  | recall (slot : Byte)
  /-- STORE (R136): character j of the name at bits 8j..8j + 7. -/
  | store (slot : Byte) (name : BitVec 96) (protect : Byte)
  /-- WRITE_PATCH (R137): the 112-byte record, byte j at bits 8j..8j + 7. -/
  | writePatch (slot : Byte) (record : BitVec 896)
  /-- READ_PATCH (R138). -/
  | readPatch (slot : Byte)
  /-- PATCH_INFO (R138). -/
  | patchInfo (slot : Byte)
  /-- PROTECT (R139). -/
  | protect (slot setting : Byte)
  /-- SAVE_SETUP (R142). -/
  | saveSetup
  /-- SET_POWER_ON_SLOT (R142). -/
  | setPowerOnSlot (slot : Byte)
  /-- MEMORY_STATUS (R143). -/
  | memoryStatus
  /-- TUNE_START (R151). -/
  | tuneStart (scope depth force save disableFailed : Byte)
  /-- TUNE_ABORT (R166). -/
  | tuneAbort
  /-- SET_REFERENCE (R149). -/
  | setReference (value : BitVec 32)
  /-- SET_TUNE_DEFAULTS (R150). -/
  | setTuneDefaults (defaults : DefaultsBytes)
  /-- GET_TUNING (R167). -/
  | getTuning (oscillator : Byte)
  /-- SAVE_TUNING (R168). -/
  | saveTuning
  /-- LINK_STATS (R174). -/
  | linkStats
  /-- GET_STATUS (R182). -/
  | getStatus
  /-- SET_REPORT_MASK (R180): the flag byte of kind 0x60 + i at bits 8i..8i + 7. -/
  | setReportMask (flags : BitVec 88)
  /-- RESTART (R183). -/
  | restart
  /-- POWER_LOSS (R133): the supply falls; `half` as for RESET_ASSERT. -/
  | powerLoss (half : Bool)
  /-- HSTB_RISE (R67). -/
  | hstbRise
  deriving DecidableEq, Repr

end Sys2Proof
end

