-- ==== Sys2Proof/Machine/State.lean ====
section
/-! DEFINITION. The state of the part, block by block as 00_scope.md section 3 names them, and the machine right after
reset. Every field is plain data. Each block's structure cites the rule that lists its state. -/

namespace Sys2Proof.Machine

/-! ### Voice Table (R1 to R5) -/

/-- A voice's place in its life cycle (R2). -/
inductive VoiceState where
  | off | free | sounding | sustained | releasing | tuning
  deriving DecidableEq, Repr

/-- The progress of a voice's gate (section 1.3). -/
inductive GatePhase where
  | low | gap | armed | high
  deriving DecidableEq, Repr

/-- A voice record (R1) with its flag of the voice enable mask (R5), its TRIG pin (R10) and the engine's three clamp
notes for it (R56). The code clamped mark is the disjunction of the notes (`codeClamped`). -/
@[ext] structure Voice where
  state : VoiceState
  enabled : Bool
  reserved : Bool
  key : Option Nat
  lastKey : Option Nat
  velocity : Nat
  stackPos : Nat
  glide : Option Nat
  glideTarget : Option Nat
  gate : GatePhase
  refreshedA : Bool
  refreshedB : Bool
  trigger : Nat
  /-- The level of the TRIG pin: high from a pulse's start to its expiry (R10). -/
  trigPin : Bool
  gap : Nat
  release : Nat
  pitchAClamped : Bool
  pitchBClamped : Bool
  noteA : Bool
  noteB : Bool
  noteCutoff : Bool
  deriving DecidableEq, Repr

/-- The power-on value of every voice record (R1). -/
def Voice.initial : Voice :=
  { state := .free, enabled := true, reserved := false, key := none, lastKey := none, velocity := 127,
    stackPos := 0, glide := none, glideTarget := none, gate := .low, refreshedA := false, refreshedB := false,
    trigger := 0, trigPin := false, gap := 0, release := 0, pitchAClamped := false, pitchBClamped := false,
    noteA := false, noteB := false, noteCutoff := false }

/-- The state the Voice Table owns. -/
@[ext] structure VoiceTable where
  voices : Vector Voice 8
  /-- Start order list, oldest first (R3). -/
  startOrder : List (Fin 8)
  /-- Release order list, earliest first (R4). -/
  releaseOrder : List (Fin 8)
  /-- Rotate pointer (R5). -/
  rotate : Fin 8
  deriving DecidableEq, Repr

def VoiceTable.initial : VoiceTable :=
  { voices := tab fun _ => Voice.initial, startOrder := [0, 1, 2, 3, 4, 5, 6, 7], releaseOrder := [], rotate := 0 }

/-! ### Note Assigner (R19 to R22) -/

inductive Mode where
  | poly | mono
  deriving DecidableEq, Repr

inductive AssignPolicy where
  | rotate | reuse | lowest
  deriving DecidableEq, Repr

inductive StealPolicy where
  | oldest | quietest
  deriving DecidableEq, Repr

inductive MonoPriority where
  | last | low | high
  deriving DecidableEq, Repr

inductive GlideMode where
  | off | always | legato
  deriving DecidableEq, Repr

/-- The voice setup in effect (R22). -/
structure VoiceSetup where
  mode : Mode
  stack : Nat
  assign : AssignPolicy
  steal : StealPolicy
  keepTop : Bool
  returning : Bool
  priority : MonoPriority
  retrigger : Bool
  glide : GlideMode
  bendRange : Nat
  gap : Nat
  width : Nat
  deriving DecidableEq, Repr

/-- The default setup of R22. -/
def VoiceSetup.initial : VoiceSetup :=
  { mode := .poly, stack := 1, assign := .rotate, steal := .oldest, keepTop := false, returning := false,
    priority := .last, retrigger := true, glide := .off, bendRange := 2, gap := 1, width := 2 }

/-- An entry of the key list (R20). -/
structure KeyEntry where
  key : Nat
  velocity : Nat
  voices : List (Fin 8)
  deriving DecidableEq, Repr

/-- The state the Note Assigner owns (R19). -/
@[ext] structure Assigner where
  /-- Oldest arrival first (R20). -/
  keyList : List KeyEntry
  /-- Earliest to join first (R21). -/
  waiting : List Nat
  pedalDown : Bool
  bend : Int
  setup : VoiceSetup
  monoKey : Option Nat
  monoStack : List (Fin 8)
  deriving DecidableEq, Repr

def Assigner.initial : Assigner :=
  { keyList := [], waiting := [], pedalDown := false, bend := 0, setup := VoiceSetup.initial, monoKey := none,
    monoStack := [] }

/-! ### Output Refresh Sequencer (R64) -/

inductive SlotPhase where
  | load | settle | hold
  deriving DecidableEq, Repr

/-- One oscillator's line of the override table (R64). -/
structure Override where
  code : Nat
  valid : Bool
  loadPending : Bool
  deriving DecidableEq, Repr

def Override.clear : Override := { code := 0, valid := false, loadPending := false }

/-- The state the Output Refresh Sequencer owns, the code in the DAC (R66) and, for the 48 external hold cells, the code
each last took (R67). -/
@[ext] structure Refresh where
  slot : Fin 48
  phase : SlotPhase
  dac : Nat
  overrides : Vector Override 16
  carried : Bool
  stale : Bool
  cells : Vector Nat 48
  deriving DecidableEq, Repr

/-- The sequencer at the start of slot 0 of the first rotation: the pitch of key 60 on the nominal map gives 27305 (R63, R75). -/
def Refresh.initial : Refresh :=
  { slot := 0, phase := .load, dac := 27305, overrides := tab fun _ => Override.clear, carried := false, stale := false,
    cells := tab fun _ => 0 }

/-! ### Parameter Table (R77) -/

inductive ParamSource where
  | default | recall | panel | link
  deriving DecidableEq, Repr

/-- A running morph: its start value and its elapsed ticks. R77: the two become present together and absent together. -/
structure Morph where
  start : Nat
  elapsed : Nat
  deriving DecidableEq, Repr

/-- A parameter record (R77). -/
structure Param where
  value : Nat
  target : Nat
  source : ParamSource
  morph : Option Morph
  deriving DecidableEq, Repr

/-- The state the Parameter Table owns. -/
@[ext] structure ParamTable where
  records : Vector Param 64
  morphTime : Nat
  morphLength : Option Nat
  currentSlot : Option Nat
  edited : Bool
  deriving DecidableEq, Repr

/-- The power-on value of parameter `p` (R77). -/
def Param.defaultValue (p : Nat) : Nat := if p ≤ 2 then 2048 else if p = 4 then 4095 else 0

def ParamTable.initial : ParamTable :=
  { records := tab fun p => { value := Param.defaultValue p, target := Param.defaultValue p, source := .default, morph := none },
    morphTime := 0, morphLength := none, currentSlot := none, edited := false }

/-! ### Knob Scanner (R92) -/

inductive PickupState where
  | locked | waitRise | waitFall
  deriving DecidableEq, Repr

inductive PickupMode where
  | jump | catch
  deriving DecidableEq, Repr

/-- A knob record (R92). -/
structure Knob where
  raw : Nat
  filtered : Nat
  reported : Nat
  seeded : Bool
  mapping : Option (Fin 64)
  pickup : PickupState
  deriving DecidableEq, Repr

/-- Bank enables, offset and deadband (R92, R94). -/
structure ScanSettings where
  banks : BitVec 6
  offset : Int
  deadband : Nat
  deriving DecidableEq, Repr

def ScanSettings.initial : ScanSettings := { banks := 0x3F, offset := 0, deadband := 6 }

/-- The point a panel frame has reached (R93): the settling of a knob step, the conversion of one bank in it, or the supply step. -/
inductive ScanPos where
  | settling (m : Fin 8)
  | converting (m : Fin 8) (bank : Fin 6)
  | supply
  deriving DecidableEq, Repr

/-- The state the Knob Scanner owns. -/
@[ext] structure Scanner where
  knobs : Vector Knob 48
  inEffect : ScanSettings
  requested : ScanSettings
  mode : PickupMode
  supply : Nat
  pos : ScanPos
  deriving DecidableEq, Repr

def Scanner.initial : Scanner :=
  { knobs := tab fun i =>
      { raw := 0, filtered := 0, reported := 0, seeded := false, mapping := some (Fin.castLE (by decide) i), pickup := .locked },
    inEffect := ScanSettings.initial, requested := ScanSettings.initial, mode := .catch, supply := 0, pos := .settling 0 }

/-! ### Switch and Lamp Matrix (R110) -/

inductive ReportSpec where
  | none | press | release | both
  deriving DecidableEq, Repr

inductive Action where
  | none | recall (slot : Nat) | next | prev | pedal | tune | storeCurrent
  deriving DecidableEq, Repr

inductive Condition where
  | ignore | isDown | isUp | pressed | released | changed
  deriving DecidableEq, Repr

inductive LampState where
  | off | on | blink
  deriving DecidableEq, Repr

inductive LampBinding where
  | none | edited | tuning
  deriving DecidableEq, Repr

/-- A switch record (R110). The three states are `true` for down. -/
structure Switch where
  sensed : Bool
  stable : Bool
  candidate : Bool
  count : Nat
  spec : ReportSpec
  action : Action
  deriving DecidableEq, Repr

def Switch.initial : Switch :=
  { sensed := false, stable := false, candidate := false, count := 0, spec := .none, action := .none }

/-- A match group (R110). -/
structure Group where
  conditions : Vector Condition 64
  latched : Bool
  action : Action
  previous : Bool
  deriving DecidableEq, Repr

def Group.initial : Group :=
  { conditions := tab fun _ => .ignore, latched := false, action := .none, previous := false }

/-- A lamp record (R110). -/
structure Lamp where
  state : LampState
  binding : LampBinding
  deriving DecidableEq, Repr

/-- The state the Switch and Lamp Matrix owns, and the levels LCOL0..LCOL7 set at the start of the row step (R111). -/
@[ext] structure Matrix where
  switches : Vector Switch 64
  groups : Vector Group 4
  lamps : Vector Lamp 64
  debounce : Nat
  onTime : Nat
  offTime : Nat
  blinkOn : Bool
  blinkRemaining : Nat
  row : Fin 8
  priming : Bool
  columns : Byte
  deriving DecidableEq, Repr

def Matrix.initial : Matrix :=
  { switches := tab fun _ => Switch.initial, groups := tab fun _ => Group.initial,
    lamps := tab fun _ => { state := .off, binding := .none }, debounce := 2, onTime := 250, offTime := 250, blinkOn := true,
    blinkRemaining := 250, row := 0, priming := true, columns := 0 }

/-! ### Patch Memory (R127 to R131) -/

/-- Outcome codes (11.2). -/
inductive Code where
  | done | accepted | busy | badArg | badKind | badLength | notReady | refused | empty | corrupt | supplyLow
  | verifyFailed | aborted | nothingToDo | complete | notSaved
  deriving DecidableEq, Repr

/-- Outcomes of the start-up loads (R144). -/
inductive LoadOutcome where
  | ok | corrected | empty | corrupt
  deriving DecidableEq, Repr

/-- Where an operation or a job came from (R130, R147). -/
inductive Origin where
  | link | panel | tune | startUp
  deriving DecidableEq, Repr

/-- What an operation acts on (R132, R144). -/
inductive Target where
  | slot (n : Nat) | tuningArea | setupArea | wholeLoad
  deriving DecidableEq, Repr

/-- The operations of R131. -/
inductive OpKind where
  | recall | stepRecall | store | patchWrite | patchRead | patchInfo | protect | tuningSave | setupSave | startUpLoad
  deriving DecidableEq, Repr

/-- The phase of an operation (R131, R132, R139, R140, R144), with what the phase carries to the next. -/
inductive OpPhase where
  | read
  /-- A step recall's search: its direction, the first slot examined and how many have been examined. -/
  | search (upward : Bool) (first : Nat) (examined : Nat)
  | heading
  | erase
  | program
  | verify
  | loadSetup
  | loadTuning (setup : LoadOutcome)
  | loadSlot (setup tuning : LoadOutcome)
  deriving DecidableEq, Repr

/-- The record of the operation in flight (R130). -/
structure MemOp where
  kind : OpKind
  target : Target
  origin : Origin
  phase : OpPhase
  /-- The time of the phase in progress as loaded at its start, in tenths of a millisecond (R131). -/
  timeLeft : Nat
  /-- The protected flag a PROTECT asks for (R139). -/
  setting : Bool
  /-- The blocks a PROTECT, tuning save or setup save programs, taken at its start (R139, R141, R142). -/
  image : List (BitVec 64)
  deriving DecidableEq, Repr

/-- A panel operation (R116, R140). -/
inductive PanelOp where
  | recall (slot : Nat) | next | prev | storeCurrent
  deriving DecidableEq, Repr

/-- The two kinds of pending item (R130). -/
inductive PendingKind where
  | panelOp | tuneSave
  deriving DecidableEq, Repr

/-- The write buffer (R130). -/
structure WriteBuffer where
  slot : Nat
  record : BitVec 896
  deriving DecidableEq, Repr

/-- The non-volatile store (R127, R128): the data bytes as last programmed, at address 8 × block + byte, and for each
block with bits now in error the mask of those bits. Both lists rise strictly by address; no cell equals the erased
byte 0xFF and no mask is 0. The check bits themselves are given by the masks (log entry 10). -/
structure Store where
  cells : List Host.Cell
  errors : List (Nat × BitVec 72)
  deriving DecidableEq, Repr

/-- The state Patch Memory owns. -/
@[ext] structure Memory where
  store : Store
  /-- The start-up state: `true` for READY, `false` for LOADING. -/
  ready : Bool
  op : Option MemOp
  writeBuffer : Option WriteBuffer
  pendingPanel : Option PanelOp
  pendingTune : Bool
  /-- The pending items in the order in which they became pending. -/
  pendingOrder : List PendingKind
  secCount : Nat
  lastSec : Option Nat
  lastDed : Option Nat
  powerOnSlot : Nat
  deriving DecidableEq, Repr

/-- The start-up load as it begins (R144). -/
def MemOp.startUp : MemOp :=
  { kind := .startUpLoad, target := .wholeLoad, origin := .startUp, phase := .loadSetup, timeLeft := 15, setting := false, image := [] }

/-- Patch Memory at the start of the start-up load over the store `st` (R130, R144). -/
def Memory.initial (st : Store) : Memory :=
  { store := st, ready := false, op := some MemOp.startUp, writeBuffer := none, pendingPanel := none,
    pendingTune := false, pendingOrder := [], secCount := 0, lastSec := none, lastDed := none, powerOnSlot := 0 }

/-! ### Tune Unit (R147, R148, R150, R157) -/

inductive TuneStatus where
  | untuned | ok | outLow | outHigh | noSignal
  deriving DecidableEq, Repr

/-- A point record of the tuning table (R148). -/
structure Point where
  entry : Nat
  status : TuneStatus
  residual : Int
  deriving DecidableEq, Repr

inductive Depth where
  | fine | full
  deriving DecidableEq, Repr

inductive Polarity where
  | rising | falling
  deriving DecidableEq, Repr

/-- The default tune settings (R150). -/
structure TuneDefaults where
  scope : Byte
  depth : Depth
  force : Bool
  save : Bool
  disableFailed : Bool
  settle : Nat
  hysteresis : Bool
  polarity : Polarity
  deriving DecidableEq, Repr

def TuneDefaults.initial : TuneDefaults :=
  { scope := 0xFF, depth := .fine, force := false, save := true, disableFailed := false, settle := 4,
    hysteresis := true, polarity := .rising }

inductive ChannelPhase where
  | idle | delivery | settle | firstEdge | counting | ended
  deriving DecidableEq, Repr

/-- The trial in progress of a point search (R157): search trial i, or the confirming trial. -/
inductive TrialIndex where
  | search (i : Nat) | confirm
  deriving DecidableEq, Repr

/-- A measurement channel (R157). -/
structure Channel where
  phase : ChannelPhase
  osc : Option (Fin 16)
  point : Fin 8
  low : Nat
  trials : Nat
  base : Nat
  index : TrialIndex
  c : Nat
  code : Nat
  cycle : Nat
  period : Nat
  timer : Nat
  deriving DecidableEq, Repr

def Channel.idle : Channel :=
  { phase := .idle, osc := none, point := 0, low := 0, trials := 0, base := 0, index := .search 0, c := 0, code := 0,
    cycle := 0, period := 0, timer := 0 }

/-- How far a round voice has come (R147, R154). -/
inductive Mark where
  | pending | reserved | taken | skipped
  deriving DecidableEq, Repr

/-- The tune job record (R147). Its state is read from `saving` and the marks (R156, `jobStateCode`). -/
structure Job where
  origin : Origin
  scope : Byte
  depth : Depth
  force : Bool
  save : Bool
  disableFailed : Bool
  settle : Nat
  hysteresis : Bool
  polarity : Polarity
  rounds : List (List (Fin 8))
  round : Nat
  /-- The round voices in position order, each with its mark. -/
  marks : List (Fin 8 × Mark)
  wait : Nat
  saving : Bool
  okCount : Nat
  failedCount : Nat
  deriving DecidableEq, Repr

/-- The state the Tune Unit owns (R147). -/
@[ext] structure Tune where
  table : Vector (Vector Point 8) 16
  reference : Nat
  defaults : TuneDefaults
  channels : Vector Channel 4
  job : Option Job
  deriving DecidableEq, Repr

/-- The tuning table with its nominal entries, UNTUNED (R147). -/
def Tune.nominalTable : Vector (Vector Point 8) 16 :=
  tab fun _ => tab fun k => { entry := Config.nominalEntry k, status := .untuned, residual := 0 }

def Tune.initial : Tune :=
  { table := Tune.nominalTable, reference := Config.defaultReference, defaults := TuneDefaults.initial,
    channels := tab fun _ => Channel.idle, job := none }

/-! ### Control Link (R170) -/

inductive RxState where
  | idle | length | kind | body | check | hunt
  deriving DecidableEq, Repr

/-- The receiver with the frame in assembly (R170, R172). -/
structure Receiver where
  state : RxState
  length : Nat
  kind : Byte
  body : List Byte
  crc : Byte
  deriving DecidableEq, Repr

def Receiver.idle : Receiver := { state := .idle, length := 0, kind := 0, body := [], crc := 0 }

/-- The six link flags (R170, R174). -/
structure LinkFlags where
  crcError : Bool
  byteError : Bool
  cut : Bool
  timeout : Bool
  overlong : Bool
  overrun : Bool
  deriving DecidableEq, Repr

def LinkFlags.clear : LinkFlags :=
  { crcError := false, byteError := false, cut := false, timeout := false, overlong := false, overrun := false }

/-- A reply waiting in the reply queue: its kind byte and its body, outcome first (R175). -/
structure Reply where
  kind : Byte
  body : List Byte
  deriving DecidableEq, Repr

/-- A report item (R177 and 11.3); the lost field is settled when its frame begins (R179). -/
inductive Report where
  | ready (setup tuning slot : LoadOutcome)
  | recallDone (slot : Nat) (outcome : Code) (sec : Nat)
  | storeDone (target : Target) (outcome : Code)
  | patchData (slot : Nat) (info : Bool) (outcome : Code) (data : List Byte)
  | tuneProgress (osc : Fin 16) (points : Vector Point 8)
  | tuneDone (result : Code) (okCount failedCount : Nat) (save : Code)
  | paramChanged (p : Fin 64) (value : Nat)
  | knobMoved (k : Fin 48) (value : Nat)
  | pickup (k : Fin 48) (p : Fin 64)
  | switchEvent (i : Fin 64) (press : Bool)
  | groupMatch (g : Fin 4) (states : Option (BitVec 64))
  deriving DecidableEq, Repr

/-- The state the Control Link owns (R170). -/
@[ext] structure Link where
  rx : Receiver
  valid : Nat
  discarded : Nat
  flags : LinkFlags
  replies : List Reply
  reports : List Report
  lost : Bool
  mask : BitVec 11
  /-- The frame being sent, all its bytes; `none` when the transmitter is idle. -/
  tx : Option (List Byte)
  deriving DecidableEq, Repr

def Link.initial : Link :=
  { rx := Receiver.idle, valid := 0, discarded := 0, flags := LinkFlags.clear, replies := [], reports := [],
    lost := false, mask := BitVec.allOnes 11, tx := none }

/-! ### The part -/

/-- The state of the part. -/
@[ext]
structure State where
  /-- The supply is up. -/
  powered : Bool
  /-- The RESET pin is low. -/
  resetLow : Bool
  table : VoiceTable
  assigner : Assigner
  refresh : Refresh
  params : ParamTable
  scanner : Scanner
  matrix : Matrix
  memory : Memory
  tune : Tune
  link : Link
  /-- The commands that wait, first in, first out (the model's own field). -/
  pending : List Instr
  deriving DecidableEq, Repr

/-- The part never stops with a fault: the manual names no event that halts it, so this type has no constructor. -/
inductive Fault where
  deriving DecidableEq, Repr

/-- Why a command has no meaning. -/
inductive Refusal where
  /-- Raised by an arm of `exec` whose command the model gives no meaning yet. Safe: nothing can be proved of a step it ends. -/
  | notModelled (mnemonic : String)
  deriving DecidableEq, Repr

/-- The machine right after power-on (R63, R75, R90, R108, R125, R146, R169, R170): the start-up load and slot 0 have
just begun, the store holds nothing but erased blocks (log entry 4) and no command waits. -/
def State.reset : State :=
  { powered := true, resetLow := false, table := VoiceTable.initial, assigner := Assigner.initial,
    refresh := Refresh.initial, params := ParamTable.initial, scanner := Scanner.initial, matrix := Matrix.initial,
    memory := Memory.initial { cells := [], errors := [] }, tune := Tune.initial, link := Link.initial, pending := [] }

end Sys2Proof.Machine
end

