-- ==== Sys2Proof/Machine/Operands.lean ====
section
/-! DEFINITION. Operand forms: byte order, absent values, bit sets (R185) and the code of every enumeration (11.2), in both
directions. -/

namespace Sys2Proof.Machine

/-! ### Bytes (6.5 of 00_scope.md, R185) -/

/-- A natural number as one byte. -/
def byteOf (n : Nat) : Byte := BitVec.ofNat 8 n

/-- A natural number as `count` bytes, least significant first. -/
def bytesLE : Nat → Nat → List Byte
  | 0, _ => []
  | count + 1, n => byteOf n :: bytesLE count (n / 256)

/-- The number whose bytes, least significant first, are `bs`. -/
def numberLE : List Byte → Nat
  | [] => 0
  | b :: bs => b.toNat + 256 * numberLE bs

/-- A two-byte unsigned field. -/
def word16 (n : Nat) : List Byte := bytesLE 2 n

/-- A two-byte two's complement field. -/
def signed16 (x : Int) : List Byte := bytesLE 2 (BitVec.ofInt 16 x).toNat

/-- A one-byte field that may be absent: 0xFF when it is (R185). -/
def optByte : Option Nat → Byte
  | none => 0xFF
  | some n => byteOf n

/-- A two-byte field that may be absent: 0xFFFF when it is (R185). -/
def optWord16 : Option Nat → List Byte
  | none => [0xFF, 0xFF]
  | some n => word16 n

def boolBit (b : Bool) (i : Nat) : Nat := if b then 2 ^ i else 0

def boolByte (b : Bool) : Byte := if b then 1 else 0

/-- An on/off or yes/no field: 0 or 1, any other value is out of range (R185). -/
def flagOf (b : Byte) : Option Bool := if b = 0 then some false else if b = 1 then some true else none

/-- An index field: its value when it is below `n`. -/
def indexOf (n : Nat) (b : Byte) : Option (Fin n) := if h : b.toNat < n then some ⟨b.toNat, h⟩ else none

/-- The number with bit `i` set for each `i` at which `f` holds. -/
def bitSet {n : Nat} (f : Fin n → Bool) : Nat :=
  (List.finRange n).foldl (fun acc i => acc + boolBit (f i) i.val) 0

/-- The voices of a voice set, ascending (11.2). -/
def voicesOf (set : Byte) : List (Fin 8) := (List.finRange 8).filter fun v => set.getLsbD v.val

/-! ### Codes the part sends (11.2) -/

def codeByte : Code → Byte
  | .done => 0x00
  | .accepted => 0x01
  | .busy => 0x02
  | .badArg => 0x03
  | .badKind => 0x04
  | .badLength => 0x05
  | .notReady => 0x06
  | .refused => 0x07
  | .empty => 0x08
  | .corrupt => 0x09
  | .supplyLow => 0x0A
  | .verifyFailed => 0x0B
  | .aborted => 0x0C
  | .nothingToDo => 0x0D
  | .complete => 0x0E
  | .notSaved => 0xFF

def loadByte : LoadOutcome → Byte
  | .ok => 0
  | .corrected => 1
  | .empty => 2
  | .corrupt => 3

def voiceStateCode : VoiceState → Nat
  | .off => 0
  | .free => 1
  | .sounding => 2
  | .sustained => 3
  | .releasing => 4
  | .tuning => 5

def gateCode : GatePhase → Byte
  | .low => 0
  | .gap => 1
  | .armed => 2
  | .high => 3

def sourceCode : ParamSource → Byte
  | .default => 0
  | .recall => 1
  | .panel => 2
  | .link => 3

def pickupModeCode : PickupMode → Byte
  | .jump => 0
  | .catch => 1

def pickupStateCode : PickupState → Byte
  | .locked => 0
  | .waitRise => 1
  | .waitFall => 2

def specCode : ReportSpec → Nat
  | .none => 0
  | .press => 1
  | .release => 2
  | .both => 3

def actionCode : Action → Nat
  | .none => 0
  | .recall _ => 1
  | .next => 2
  | .prev => 3
  | .pedal => 4
  | .tune => 5
  | .storeCurrent => 6

/-- The slot field sent with an action: unused, and so 0, unless it is RECALL (R185). -/
def actionSlot : Action → Nat
  | .recall n => n
  | _ => 0

def conditionCode : Condition → Nat
  | .ignore => 0
  | .isDown => 1
  | .isUp => 2
  | .pressed => 3
  | .released => 4
  | .changed => 5

def lampStateCode : LampState → Nat
  | .off => 0
  | .on => 1
  | .blink => 2

def bindingCode : LampBinding → Nat
  | .none => 0
  | .edited => 1
  | .tuning => 2

def statusCode : TuneStatus → Byte
  | .untuned => 0x10
  | .ok => 0x11
  | .outLow => 0x12
  | .outHigh => 0x13
  | .noSignal => 0x14

def depthCode : Depth → Byte
  | .fine => 0
  | .full => 1

def opKindCode : OpKind → Byte
  | .recall => 1
  | .stepRecall => 2
  | .store => 3
  | .patchWrite => 4
  | .patchRead => 5
  | .patchInfo => 6
  | .protect => 7
  | .tuningSave => 8
  | .setupSave => 9
  | .startUpLoad => 0

def panelOpCode : PanelOp → Byte
  | .recall _ => 1
  | .next => 2
  | .prev => 3
  | .storeCurrent => 4

def panelOpSlot : PanelOp → Nat
  | .recall n => n
  | _ => 0

def targetByte : Target → Byte
  | .slot n => byteOf n
  | .tuningArea => 0x80
  | .setupArea => 0x81
  | .wholeLoad => 0xFF

/-! ### Codes the part receives or loads (11.2): `none` for a code outside the list -/

def modeOf : Nat → Option Mode
  | 0 => some .poly
  | 1 => some .mono
  | _ => none

def stackOf (n : Nat) : Option Nat := if n = 1 ∨ n = 2 ∨ n = 4 ∨ n = 8 then some n else none

def assignOf : Nat → Option AssignPolicy
  | 0 => some .rotate
  | 1 => some .reuse
  | 2 => some .lowest
  | _ => none

def stealOf : Nat → Option StealPolicy
  | 0 => some .oldest
  | 1 => some .quietest
  | _ => none

def priorityOf : Nat → Option MonoPriority
  | 0 => some .last
  | 1 => some .low
  | 2 => some .high
  | _ => none

def glideOf : Nat → Option GlideMode
  | 0 => some .off
  | 1 => some .always
  | 2 => some .legato
  | _ => none

def pickupModeOf : Nat → Option PickupMode
  | 0 => some .jump
  | 1 => some .catch
  | _ => none

def specOf : Nat → Option ReportSpec
  | 0 => some .none
  | 1 => some .press
  | 2 => some .release
  | 3 => some .both
  | _ => none

/-- An action code with its slot field; a RECALL with a slot above 127 is out of range (R119, R125). -/
def actionOf (code slot : Nat) : Option Action :=
  match code with
  | 0 => some .none
  | 1 => if slot ≤ 127 then some (.recall slot) else none
  | 2 => some .next
  | 3 => some .prev
  | 4 => some .pedal
  | 5 => some .tune
  | 6 => some .storeCurrent
  | _ => none

/-- A group action: a switch action other than PEDAL (R110, R120). -/
def groupActionOf (code slot : Nat) : Option Action := if code = 4 then none else actionOf code slot

def conditionOf : Nat → Option Condition
  | 0 => some .ignore
  | 1 => some .isDown
  | 2 => some .isUp
  | 3 => some .pressed
  | 4 => some .released
  | 5 => some .changed
  | _ => none

def lampStateOf : Nat → Option LampState
  | 0 => some .off
  | 1 => some .on
  | 2 => some .blink
  | _ => none

def bindingOf : Nat → Option LampBinding
  | 0 => some .none
  | 1 => some .edited
  | 2 => some .tuning
  | _ => none

def debounceOf (n : Nat) : Option Nat := if n = 1 ∨ n = 2 ∨ n = 4 ∨ n = 8 then some n else none

def statusOf : Nat → Option TuneStatus
  | 0x10 => some .untuned
  | 0x11 => some .ok
  | 0x12 => some .outLow
  | 0x13 => some .outHigh
  | 0x14 => some .noSignal
  | _ => none

def depthOf : Nat → Option Depth
  | 0 => some .fine
  | 1 => some .full
  | _ => none

def polarityOf : Nat → Option Polarity
  | 0 => some .rising
  | 1 => some .falling
  | _ => none

/-! ### Whole records -/

/-- A voice setup whose fields are all in range (R41), from the codes of its twelve fields. -/
def setupOfCodes (mode stack assign steal keepTop returning priority retrigger glide bendRange gap width : Nat) :
    Option VoiceSetup := do
  let mode ← modeOf mode
  let stack ← stackOf stack
  let assign ← assignOf assign
  let steal ← stealOf steal
  let keepTop ← flagOf (byteOf keepTop)
  let returning ← flagOf (byteOf returning)
  let priority ← priorityOf priority
  let retrigger ← flagOf (byteOf retrigger)
  let glide ← glideOf glide
  if bendRange ≤ 24 ∧ gap ≤ 8 ∧ 1 ≤ width ∧ width ≤ 8 then
    some { mode, stack, assign, steal, keepTop, returning, priority, retrigger, glide, bendRange, gap, width }
  else none

/-- The record of a SET_VOICE_SETUP body; `none` when any field is out of range (R41). -/
def setupOfBytes (b : SetupBytes) : Option VoiceSetup :=
  setupOfCodes b.mode.toNat b.stack.toNat b.assign.toNat b.steal.toNat b.keepTop.toNat b.returning.toNat
    b.priority.toNat b.retrigger.toNat b.glide.toNat b.bendRange.toNat b.gap.toNat b.width.toNat

/-- The record of a SET_TUNE_DEFAULTS body, its settle time clamped; `none` when a code is outside its list (R150). -/
def defaultsOfBytes (b : DefaultsBytes) : Option TuneDefaults := do
  let depth ← depthOf b.depth.toNat
  let force ← flagOf b.force
  let save ← flagOf b.save
  let disableFailed ← flagOf b.disableFailed
  let hysteresis ← flagOf b.hysteresis
  let polarity ← polarityOf b.polarity.toNat
  some { scope := b.scope, depth, force, save, disableFailed, settle := clampNat 1 50 b.settle.toNat, hysteresis, polarity }

/-- The offset and deadband of a scan request, clamped (R104); the bank set is its low six bits. -/
def scanOf (banks : BitVec 6) (offset : Int) (deadband : Nat) : ScanSettings :=
  { banks, offset := clampInt (-64) 63 offset, deadband := clampNat 0 255 deadband }

end Sys2Proof.Machine
end

