-- ==== Sys2Proof/Machine/Flags.lean ====
section
/-! DEFINITION. Flags and pins computed from the state: what a rule reads as a condition and the part does not hold in a
field of its own. -/

namespace Sys2Proof.Machine

/-- The part runs: the supply is up and the RESET pin is high. While it does not, no event of a running part and no frame
reaches any block (R75, R108, R111, R133, R170). -/
def State.running (s : State) : Bool := s.powered && !s.resetLow

/-- The start-up state is LOADING, so requests and play messages are refused NOT_READY (R130, R145). -/
def State.loading (s : State) : Bool := !s.memory.ready

/-- The record of voice `v`. -/
def State.voice (s : State) (v : Fin 8) : Voice := s.table.voices[v]

/-- The live value of parameter `p` (R78). -/
def State.param (s : State) (p : Fin 64) : Nat := s.params.records[p].value

/-- The states in which a voice may be available (R2). -/
def VoiceState.playable : VoiceState → Bool
  | .free | .sounding | .sustained | .releasing => true
  | .off | .tuning => false

/-- A voice is available: enabled, in a playable state, and not reserved (R2). -/
def Voice.available (x : Voice) : Bool := x.enabled && x.state.playable && !x.reserved

/-- The voice plays a key that may still raise its gate (R9). -/
def Voice.playing (x : Voice) : Bool := x.state = .sounding || x.state = .sustained

/-- The GATE pin of a voice (R2). -/
def Voice.gatePin (x : Voice) : Bool := x.gate = .high

/-- The code clamped mark of a voice: yes while at least one of its three clamp notes is yes (R56). -/
def Voice.codeClamped (x : Voice) : Bool := x.noteA || x.noteB || x.noteCutoff

/-- HSTB: high in the HOLD phase of a slot, low while the part does not run (R67, R75). -/
def State.strobe (s : State) : Bool := s.running && decide (s.refresh.phase = .hold)

/-- KA0..KA2: the multiplexer address of the step in progress, 0 while RESET is low (R93, R108). During the supply step the
lines keep the address of step 7. -/
def State.knobAddress (s : State) : Nat :=
  if s.running then
    match s.scanner.pos with
    | .settling m => m.val
    | .converting m _ => m.val
    | .supply => 7
  else 0

/-- LCOL0..LCOL7: the lamps of the driven row, dark while RESET is low (R111). -/
def State.lampColumns (s : State) : Byte := if s.running then s.matrix.columns else 0

/-- A record morphs while its morph is present (R77). -/
def Param.morphing (r : Param) : Bool := r.morph.isSome

/-- At least one record morphs. -/
def anyMorphing (rs : Vector Param 64) : Bool := rs.toList.any Param.morphing

/-- The memory is busy while an operation is in flight (R130). -/
def State.busy (s : State) : Bool := s.memory.op.isSome

/-- The round waits for at least one voice (R156). -/
def Job.waiting (j : Job) : Bool := j.marks.any fun m => m.2 = .reserved

/-- The job state code of GET_STATUS: 0 none, 1 WAITING, 2 MEASURING, 3 SAVING (R156, 11.2). -/
def jobStateCode : Option Job → Byte
  | none => 0
  | some j => if j.saving then 3 else if j.waiting then 1 else 2

/-- The shown state of a lamp: `true` for lit (R121). -/
def shownLit (s : State) (l : Lamp) : Bool :=
  match l.binding with
  | .none =>
    match l.state with
    | .off => false
    | .on => true
    | .blink => s.matrix.blinkOn
  | .edited => s.params.edited
  | .tuning => s.tune.job.isSome && s.matrix.blinkOn

/-- SROW0..SROW7 and LROW0..LROW7: bit r is set while row r is driven. That is the row of the step in progress, and no row while
the part does not run (R111). -/
def State.rowDrives (s : State) : Byte := if s.running then (1 : Byte) <<< s.matrix.row.val else 0

/-- LCOL for row `r`: the shown states of lamps 8r..8r + 7 (R111). -/
def rowColumns (s : State) (r : Fin 8) : Byte :=
  byteOf (bitSet fun c : Fin 8 => shownLit s s.matrix.lamps[(⟨8 * r.val + c.val, by omega⟩ : Fin 64)])

/-- The link flags as one byte (11.4). -/
def LinkFlags.toByte (f : LinkFlags) : Byte :=
  byteOf (boolBit f.crcError 0 + boolBit f.byteError 1 + boolBit f.cut 2 + boolBit f.timeout 3 + boolBit f.overlong 4 +
    boolBit f.overrun 5)

end Sys2Proof.Machine
end

