-- ==== Sys2Proof/Machine/Ops.lean ====
section
/-! DEFINITION. The shared operations of the control link: the CRC, frames, the reply and report queues, the transmitter,
and the taking of a sound frame; and the updates of one voice, knob, channel or override that every block uses. -/

namespace Sys2Proof.Machine

/-! ### Updates of one record -/

/-- The state with voice `v` replaced by its image under `f`. -/
def modVoice (v : Fin 8) (f : Voice → Voice) (s : State) : State :=
  { s with table := { s.table with voices := upd s.table.voices v f } }

/-- The state with parameter record `p` replaced by its image under `f`. -/
def modParam (p : Fin 64) (f : Param → Param) (s : State) : State :=
  { s with params := { s.params with records := upd s.params.records p f } }

/-- The state with knob `k` replaced by its image under `f`. -/
def modKnob (k : Fin 48) (f : Knob → Knob) (s : State) : State :=
  { s with scanner := { s.scanner with knobs := upd s.scanner.knobs k f } }

/-- The state with measurement channel `c` replaced by its image under `f`. -/
def modChannel (c : Fin 4) (f : Channel → Channel) (s : State) : State :=
  { s with tune := { s.tune with channels := upd s.tune.channels c f } }

/-- The state with the override of oscillator `o` replaced by its image under `f`. -/
def modOverride (o : Fin 16) (f : Override → Override) (s : State) : State :=
  { s with refresh := { s.refresh with overrides := upd s.refresh.overrides o f } }

/-- The state with the tune job, if there is one, replaced by its image under `f`. -/
def modJob (f : Job → Job) (s : State) : State :=
  { s with tune := { s.tune with job := s.tune.job.map f } }

/-- Run `f` only while the part runs; an event of a part without supply or held in reset changes nothing. -/
def whenRunning (f : State → State) (s : State) : State := if s.running then f s else s

/-! ### CRC and frames (R184, 11.1) -/

/-- One bit into the CRC register. -/
def crcBit (reg : Byte) (bit : Bool) : Byte :=
  if reg.msb = bit then reg <<< 1 else (reg <<< 1) ^^^ 0x07

/-- One byte into the CRC register, most significant bit first. -/
def crcByte (reg b : Byte) : Byte :=
  [7, 6, 5, 4, 3, 2, 1, 0].foldl (fun r i => crcBit r (b.getLsbD i)) reg

/-- The CRC of the bytes `bs`, the register starting at 0. -/
def crcOf (bs : List Byte) : Byte := bs.foldl crcByte 0

/-- The frame of a kind and a body (11.1). -/
def frameBytes (kind : Byte) (body : List Byte) : List Byte :=
  0xC5 :: byteOf body.length :: kind :: body ++ [crcOf (byteOf body.length :: kind :: body)]

/-! ### Reports (R177 to R180, 11.3) -/

inductive ReportClass where
  | coalesced | droppable | completion
  deriving DecidableEq, Repr

/-- The admission class of a report (R177). -/
def classOf : Report → ReportClass
  | .paramChanged _ _ => .coalesced
  | .knobMoved _ _ => .coalesced
  | .switchEvent _ _ => .droppable
  | .groupMatch _ _ => .droppable
  | .pickup _ _ => .droppable
  | _ => .completion

/-- The place of a report's kind in the report mask: kind 0x60 + i has flag i (R180, R187). -/
def reportIndex : Report → Nat
  | .ready _ _ _ => 0
  | .recallDone _ _ _ => 1
  | .storeDone _ _ => 2
  | .patchData _ _ _ _ => 3
  | .tuneProgress _ _ => 4
  | .tuneDone _ _ _ _ => 5
  | .paramChanged _ _ => 6
  | .knobMoved _ _ => 7
  | .pickup _ _ => 8
  | .switchEvent _ _ => 9
  | .groupMatch _ _ => 10

/-- A report of a kind that carries a lost field: every kind but the completion items (R179). -/
def carriesLost (r : Report) : Bool := classOf r ≠ .completion

/-- The body of a report's frame (11.3); `lost` is the lost field where the kind has one. -/
def reportBody (lost : Bool) : Report → List Byte
  | .ready a b c => [loadByte a, loadByte b, loadByte c]
  | .recallDone slot o sec => [byteOf slot, codeByte o, byteOf sec]
  | .storeDone t o => [targetByte t, codeByte o]
  | .patchData slot info o data => byteOf slot :: boolByte info :: codeByte o :: data
  | .tuneProgress osc pts =>
    byteOf osc.val :: (pts.toList.map fun q => statusCode q.status) ++ pts.toList.flatMap fun q => signed16 q.residual
  | .tuneDone r okN bad save => [codeByte r, byteOf okN, byteOf bad, codeByte save]
  | .paramChanged p v => byteOf p.val :: word16 v ++ [boolByte lost]
  | .knobMoved k v => byteOf k.val :: word16 v ++ [boolByte lost]
  | .pickup k p => [byteOf k.val, byteOf p.val, boolByte lost]
  | .switchEvent i press => [byteOf i.val, if press then 0 else 1, boolByte lost]
  | .groupMatch g none => [byteOf g.val, 0, boolByte lost]
  | .groupMatch g (some states) => byteOf g.val :: 1 :: boolByte lost :: bytesLE 8 states.toNat

/-- Two coalesced items for the same parameter or the same knob (R178). -/
def sameItem : Report → Report → Bool
  | .paramChanged p _, .paramChanged q _ => p = q
  | .knobMoved j _, .knobMoved k _ => j = k
  | _, _ => false

/-- An item that a later value of an earlier coalesced item must not overtake (R178). -/
def holdsOrder (r : Report) : Bool :=
  match r with
  | .pickup _ _ => true
  | r => classOf r = .completion

/-- The items with the first one that is not a completion item removed; `none` when there is no such item (R177). -/
def dropOldestLoss : List Report → Option (List Report)
  | [] => none
  | r :: rs => if classOf r = .completion then (dropOldestLoss rs).map (r :: ·) else some rs

/-- Admission of a completion item (R177). -/
def admitCompletion (item : Report) (l : Link) : Link :=
  if l.reports.length < 96 then { l with reports := l.reports ++ [item] }
  else
    match dropOldestLoss l.reports with
    | some rs => { l with reports := rs ++ [item], lost := true }
    | none => { l with reports := l.reports.drop 1 ++ [item] }

/-- Admission of an item that is refused, with the lost mark set, once `limit` items are held (R177). -/
def admitBelow (limit : Nat) (item : Report) (l : Link) : Link :=
  if l.reports.length < limit then { l with reports := l.reports ++ [item] } else { l with lost := true }

/-- Admission of a coalesced item: in place, or removed and appended behind what it must not overtake (R178). -/
def admitCoalesced (item : Report) (l : Link) : Link :=
  match l.reports.findIdx? (sameItem item) with
  | none => admitBelow 96 item l
  | some i =>
    if (l.reports.drop (i + 1)).any holdsOrder then
      admitBelow 96 item { l with reports := l.reports.eraseIdx i }
    else { l with reports := l.reports.set i item }

/-- Admission to the report queue by class (R177). -/
def admitItem (item : Report) (l : Link) : Link :=
  match classOf item with
  | .completion => admitCompletion item l
  | .droppable => admitBelow 88 item l
  | .coalesced => admitCoalesced item l

/-- Offer a report: past the report mask when `bypass` holds or its kind's flag is set, then to admission (R180). -/
def offer (bypass : Bool) (item : Report) (s : State) : State :=
  if bypass || s.link.mask.getLsbD (reportIndex item) then { s with link := admitItem item s.link } else s

/-! ### The transmitter (R181) -/

/-- Take the next frame: the oldest reply, or else the oldest report, its lost field settled now (R179). -/
def beginFrame (l : Link) : Link :=
  match l.replies with
  | r :: rs => { l with replies := rs, tx := some (frameBytes r.kind r.body) }
  | [] =>
    match l.reports with
    | r :: rs =>
      { l with
        reports := rs
        lost := if carriesLost r then false else l.lost
        tx := some (frameBytes (byteOf (0x60 + reportIndex r)) (reportBody l.lost r)) }
    | [] => { l with tx := none }

/-- At an event that queues an item while no frame is being sent, a frame begins (R181). -/
def transmit (s : State) : State :=
  match s.link.tx with
  | some _ => s
  | none => { s with link := beginFrame s.link }

/-! ### Replies and the taking of a frame (R172, R175, R176) -/

/-- A reply body of an outcome alone (R175). -/
def answer (c : Code) : Option (List Byte) := some [codeByte c]

/-- A reply body of DONE with data (R175). -/
def answerData (data : List Byte) : Option (List Byte) := some (codeByte .done :: data)

/-- The receiver clears the frame in assembly and stands in IDLE (R172). -/
def clearReceiver (s : State) : State := { s with link := { s.link with rx := Receiver.idle } }

/-- Count a discarded frame (R173, R176); the count stops at 255. -/
def countDiscarded (l : Link) : Link := { l with discarded := clampNat 0 255 (l.discarded + 1) }

def setOverrun (l : Link) : Link := { l with flags := { l.flags with overrun := true } }

/-- Queue a reply to a frame of kind `kind`; with eight replies held it is dropped and the overrun flag set (R176). -/
def queueReply (kind : Byte) (body : List Byte) (s : State) : State :=
  if s.link.replies.length < 8 then
    { s with link := { s.link with replies := s.link.replies ++ [{ kind := kind ||| 0x80, body := body }] } }
  else { s with link := setOverrun s.link }

/-- The taking of a frame that has passed its check, at the receipt of its CRC byte: the room for a reply is judged, the
valid count rises, the owning block `own` acts and answers, and the transmitter begins a frame if it is free (R172, R175,
R176, R181). `play` says that the frame is a play message. -/
def takeFrame (play : Bool) (kind : Byte) (own : State → State × Option (List Byte)) (s : State) : State :=
  let s := clearReceiver s
  if !play && decide (8 ≤ s.link.replies.length) then
    { s with link := setOverrun (countDiscarded s.link) }
  else
    let r := own { s with link := { s.link with valid := clampNat 0 65535 (s.link.valid + 1) } }
    transmit (match r.2 with
      | none => r.1
      | some body => queueReply kind body r.1)

/-- A request served by its owning block outside start-up: NOT_READY while the start-up state is LOADING (R145). -/
def servedWhenReady (own : State → State × Option (List Byte)) (s : State) : State × Option (List Byte) :=
  if s.loading then (s, answer .notReady) else own s

/-! ### Orders to the Output Refresh Sequencer -/

/-- An override write (R72). -/
def writeOverride (o : Fin 16) (code : Nat) (s : State) : State :=
  modOverride o (fun _ => { code := code, valid := true, loadPending := true }) s

/-- An override clear (R74). -/
def clearOverride (o : Fin 16) (s : State) : State := modOverride o (fun _ => Override.clear) s

/-- The oscillators A and B of voice `v` (6.1 of 00_scope.md). -/
def oscA (v : Fin 8) : Fin 16 := ⟨2 * v.val, by omega⟩

def oscB (v : Fin 8) : Fin 16 := ⟨2 * v.val + 1, by omega⟩

/-- The slot in progress is PITCH_A(v) or PITCH_B(v) (R65). -/
def inPitchSlot (v : Fin 8) (r : Refresh) : Bool := r.slot.val = 6 * v.val || r.slot.val = 6 * v.val + 1

/-- A note start during the voice's own pitch slot sets the stale mark (R69). -/
def markStale (v : Fin 8) (s : State) : State :=
  if inPitchSlot v s.refresh then { s with refresh := { s.refresh with stale := true } } else s

end Sys2Proof.Machine
end

