-- ==== Sys2Proof/Machine/Params.lean ====
section
/-! DEFINITION. The Parameter Table (R77 to R91): writes, morphs and recalls; the pickup re-evaluation its writes cause
(R100); and the requests SET_PARAM, GET_PARAM and SET_MORPH_TIME. -/

namespace Sys2Proof.Machine

/-! ### Pickup re-evaluation (R100) -/

/-- The pickup state of reported value `r` against target `t` with deadband `d` (R100). -/
def pickupOf (d r t : Nat) : PickupState := if r + d < t then .waitRise else if t + d < r then .waitFall else .locked

/-- A knob takes its pickup state from a written target (R100): only in CATCH, when it is seeded and mapped to a
parameter that `written` names. -/
def reevaluateKnob (mode : PickupMode) (d : Nat) (written : Fin 64 → Bool) (records : Vector Param 64) (k : Knob) : Knob :=
  match mode, k.mapping with
  | .catch, some p => if k.seeded && written p then { k with pickup := pickupOf d k.reported records[p].target } else k
  | _, _ => k

/-- The Knob Scanner re-evaluates the knobs of the written parameters (R81, R83, R100). -/
def reevaluate (written : Fin 64 → Bool) (s : State) : State :=
  { s with scanner := { s.scanner with
      knobs := tab fun i => reevaluateKnob s.scanner.mode s.scanner.inEffect.deadband written s.params.records s.scanner.knobs[i] } }

/-! ### Writes -/

def setEdited (s : State) : State := { s with params := { s.params with edited := true } }

/-- The morph length becomes absent when no record morphs (R77, R84). -/
def ParamTable.settled (t : ParamTable) : ParamTable := if anyMorphing t.records then t else { t with morphLength := none }

/-- The end of a record's morph, if it was the last, ends the morph length with it (R84). -/
def settleMorphLength (s : State) : State := { s with params := s.params.settled }

/-- A write of a value by the link or the panel (R81, R82): value, target and source are set, the record's morph ends and
the edited flag is set. -/
def writeParam (p : Fin 64) (value : Nat) (source : ParamSource) (s : State) : State :=
  setEdited (settleMorphLength (modParam p (fun _ => { value, target := value, source, morph := none }) s))

/-- A panel write (R82): the write, then PARAM_CHANGED. -/
def panelWrite (p : Fin 64) (value : Nat) (s : State) : State :=
  offer false (.paramChanged p value) (writeParam p value .panel s)

/-! ### Morphs -/

/-- The value of a morph from `start` to `target` after `e` of `len` ticks (R84), the division truncated. -/
def morphValue (start target e len : Nat) : Nat :=
  ((start : Int) + Int.tdiv (((target : Int) - (start : Int)) * (e : Int)) (len : Int)).toNat

/-- A record on its target, its morph ended (R84). -/
def Param.arrived (r : Param) : Param := { r with value := r.target, morph := none }

/-- One morph step of a record under morph length `len` (R84): the step at which the elapsed count reaches the length puts the
value on the target and ends the morph. -/
def morphStep (len : Nat) (r : Param) : Param :=
  match r.morph with
  | some m =>
    if m.elapsed + 1 < len then
      { r with value := morphValue m.start r.target (m.elapsed + 1) len, morph := some { m with elapsed := m.elapsed + 1 } }
    else r.arrived
  | none => r

/-- The morph steps of a tick (R84). -/
def stepMorphs (t : ParamTable) : ParamTable :=
  match t.morphLength with
  | some len => { t with records := tab fun p => morphStep len t.records[p] }.settled
  | none => t

/-- The next morph step of a record is its last: the elapsed count reaches the morph length with it (R84). -/
def morphDue (t : ParamTable) (p : Fin 64) : Bool :=
  match t.records[p].morph, t.morphLength with
  | some m, some len => decide (len ≤ m.elapsed + 1)
  | _, _ => false

/-- The last morph step of a record (R84). -/
def endMorph (p : Fin 64) (s : State) : State := settleMorphLength (modParam p Param.arrived s)

/-- MORPH_END (R84): the last morph step of one record, taken as an event of its own; a TICK takes it otherwise (log entry 6). -/
def execMorphEnd (p : Fin 64) (s : State) : Host.Outcome State Fault Refusal :=
  .next (whenRunning (fun s => if morphDue s.params p then endMorph p s else s) s)

/-- A record takes a recalled target under morph time `m` (step 1 of R83). -/
def recallRecord (m value : Nat) (r : Param) : Param :=
  if m = 0 ∨ r.value = value then { value, target := value, source := .recall, morph := none }
  else { value := r.value, target := value, source := .recall, morph := some { start := r.value, elapsed := 0 } }

/-- The Parameter Table takes a recalled patch (R83). `m` is the morph time stored in the patch; at start-up the morph is
taken as 0 and the stored time still becomes the one in effect (R90). -/
def recallToTable (values : Fin 64 → Nat) (m slot : Nat) (startUp : Bool) (s : State) : State :=
  let morph := if startUp then 0 else m
  let records := tab fun p => recallRecord morph (values p) s.params.records[p]
  reevaluate (fun _ => true)
    { s with params := {
        records
        morphTime := m
        morphLength := if anyMorphing records then some morph else none
        currentSlot := some slot
        edited := false } }

/-- RESTART of the Parameter Table (R91). -/
def restartParams (s : State) : State :=
  { s with params := { s.params with
      morphLength := none
      records := tab fun p => { s.params.records[p] with
        value := if s.params.records[p].morphing then s.params.records[p].target else s.params.records[p].value
        morph := none } } }

/-! ### Requests -/

/-- SET_PARAM at the Parameter Table (R81). -/
def serveSetParam (index : Byte) (value : BitVec 16) : State → State × Option (List Byte) :=
  servedWhenReady fun s =>
    match indexOf 64 index with
    | none => (s, answer .badArg)
    | some p => (reevaluate (fun q => q = p) (writeParam p (clampNat 0 4095 value.toNat) .link s), answer .done)

/-- GET_PARAM at the Parameter Table (R89, 11.4). -/
def serveGetParam (index : Byte) : State → State × Option (List Byte) :=
  servedWhenReady fun s =>
    match indexOf 64 index with
    | none => (s, answer .badArg)
    | some p =>
      let r := s.params.records[p]
      (s, answerData (word16 r.value ++ word16 r.target ++ [sourceCode r.source, boolByte r.morphing] ++
        optWord16 (r.morph.map Morph.start) ++ optWord16 (r.morph.map Morph.elapsed) ++
        optWord16 (if r.morphing then s.params.morphLength else none)))

/-- SET_MORPH_TIME at the Parameter Table (R88). -/
def serveSetMorphTime (time : BitVec 16) : State → State × Option (List Byte) :=
  servedWhenReady fun s =>
    (setEdited { s with params := { s.params with morphTime := clampNat 0 2000 time.toNat } }, answer .done)

/-- SET_PARAM (R81). -/
def execSetParam (index : Byte) (value : BitVec 16) (s : State) : Host.Outcome State Fault Refusal :=
  .next (whenRunning (takeFrame false 0x28 (serveSetParam index value)) s)

/-- GET_PARAM (R89). -/
def execGetParam (index : Byte) (s : State) : Host.Outcome State Fault Refusal :=
  .next (whenRunning (takeFrame false 0x29 (serveGetParam index)) s)

/-- SET_MORPH_TIME (R88). -/
def execSetMorphTime (time : BitVec 16) (s : State) : Host.Outcome State Fault Refusal :=
  .next (whenRunning (takeFrame false 0x2A (serveSetMorphTime time)) s)

end Sys2Proof.Machine
end

