-- ==== Sys2Proof/Machine/Knobs.lean ====
section
/-! DEFINITION. The Knob Scanner (R92 to R109): the panel frame, the handling of a conversion, mapping and pickup, and its
requests. -/

namespace Sys2Proof.Machine

/-! ### The panel frame (R93, R94, R97) -/

/-- The first enabled bank at or above `b`. -/
def nextBank (banks : BitVec 6) (b : Nat) : Option (Fin 6) :=
  (List.finRange 6).find? fun k => decide (b ≤ k.val) && banks.getLsbD k.val

/-- Where the frame goes at the end of knob step `m`. -/
def nextStep (m : Fin 8) : ScanPos := if h : m.val + 1 < 8 then .settling ⟨m.val + 1, h⟩ else .supply

/-- Where the frame goes from bank `b` of step `m` on: the next enabled bank's conversion, or the end of the step. -/
def advanceFrom (banks : BitVec 6) (m : Fin 8) (b : Nat) : ScanPos :=
  match nextBank banks b with
  | some k => .converting m k
  | none => nextStep m

def setPos (pos : ScanPos) (s : State) : State := { s with scanner := { s.scanner with pos } }

/-- The knob converted by bank `b` in step `m`: b × 8 + m (R93). -/
def knobIndex (m : Fin 8) (b : Fin 6) : Fin 48 := ⟨b.val * 8 + m.val, by omega⟩

/-- A frame start (R94, R97): the requested settings are copied, and every knob of a bank that leaves the enabled set
has its seeded mark set to no. -/
def startFrame (s : State) : State :=
  let old := s.scanner.inEffect
  let new := s.scanner.requested
  { s with scanner := { s.scanner with
      inEffect := new
      pos := .settling 0
      knobs := tab fun i =>
        let k := s.scanner.knobs[i]
        if old.banks.getLsbD (i.val / 8) && !new.banks.getLsbD (i.val / 8) then { k with seeded := false } else k } }

/-! ### A conversion (R95, R96, R101, R102) -/

/-- The smoothing filter (step 3 of R95). -/
def filterStep (f c : Nat) : Nat := (3 * f + c + 2) / 4

/-- The end snap applies: c is an end value and the new f lies within 1 of it (step 4 of R95). -/
def snaps (c f : Nat) : Bool := (c = 0 || c = 4095) && decide (f ≤ c + 1) && decide (c ≤ f + 1)

/-- The filtered value after a conversion of a seeded knob (steps 3 and 4 of R95). -/
def filterKnob (f c : Nat) : Nat := if snaps c (filterStep f c) then c else filterStep f c

/-- The distance of two readings. -/
def apart (a b : Nat) : Nat := (a - b) + (b - a)

/-- A seeded knob has moved at a conversion (R96); `f` is its filtered value afterwards. -/
def hasMoved (d reported c f : Nat) (snapped : Bool) : Bool :=
  decide (d < apart f reported) || (snapped && decide (reported ≠ c))

/-- The lock condition of a waiting knob at reported value `r` and parameter value `v` (R101). -/
def locksAt (st : PickupState) (d r v : Nat) : Bool :=
  match st with
  | .locked => true
  | .waitRise => decide (v ≤ r + d)
  | .waitFall => decide (r ≤ v + d)

/-- A movement handed on by mapping and pickup state (R101, R102). -/
def handMovement (i : Fin 48) (s : State) : State :=
  let k := s.scanner.knobs[i]
  match k.mapping with
  | none => offer false (.knobMoved i k.reported) s
  | some p =>
    match k.pickup with
    | .locked => panelWrite p k.reported s
    | st =>
      if locksAt st s.scanner.inEffect.deadband k.reported (s.param p) then
        panelWrite p k.reported (offer false (.pickup i p) (modKnob i (fun k => { k with pickup := .locked }) s))
      else s

/-- The completion of a knob's conversion (R95, R96): correction, seeding or filter and snap, and the movement test. -/
def convertKnob (i : Fin 48) (adc : Nat) (s : State) : State :=
  let k := s.scanner.knobs[i]
  let c := (clampInt 0 4095 ((adc : Int) + s.scanner.inEffect.offset)).toNat
  if k.seeded then
    let f := filterKnob k.filtered c
    if hasMoved s.scanner.inEffect.deadband k.reported c f (snaps c (filterStep k.filtered c)) then
      let s1 := modKnob i (fun k => { k with raw := adc, filtered := f, reported := f }) s
      if s.loading then s1 else handMovement i s1
    else modKnob i (fun k => { k with raw := adc, filtered := f }) s
  else modKnob i (fun k => { k with raw := adc, filtered := c, reported := c, seeded := true }) s

/-- KNOB_SETTLE_END (R93): the conversions of the step begin, or the step ends when no bank is enabled. -/
def execKnobSettleEnd (s : State) : Host.Outcome State Fault Refusal :=
  .next (whenRunning (fun s =>
    match s.scanner.pos with
    | .settling m => setPos (advanceFrom s.scanner.inEffect.banks m 0) s
    | _ => s) s)

/-- KNOB_CONVERSION_COMPLETE (R95). -/
def execKnobConversionComplete (adc : BitVec 12) (s : State) : Host.Outcome State Fault Refusal :=
  .next (whenRunning (fun s =>
    match s.scanner.pos with
    | .converting m b =>
      transmit (convertKnob (knobIndex m b) adc.toNat (setPos (advanceFrom s.scanner.inEffect.banks m (b.val + 1)) s))
    | _ => s) s)

/-- SUPPLY_CONVERSION_COMPLETE (R106): the supply reading, the end of the frame and the start of the next. -/
def execSupplyConversionComplete (adc : BitVec 12) (s : State) : Host.Outcome State Fault Refusal :=
  .next (whenRunning (fun s =>
    match s.scanner.pos with
    | .supply => startFrame { s with scanner := { s.scanner with supply := adc.toNat } }
    | _ => s) s)

/-! ### Settings and resets -/

/-- Every knob's pickup state becomes LOCKED (R99, R107). -/
def lockAll (s : State) : State :=
  { s with scanner := { s.scanner with knobs := tab fun i => { s.scanner.knobs[i] with pickup := .locked } } }

/-- The other knobs mapped to `p` become unmapped and LOCKED (step 1 of R98). -/
def unmapOthers (i : Fin 48) (p : Fin 64) (s : State) : State :=
  let unmap := fun k : Knob => if k.mapping = some p then { k with mapping := none, pickup := .locked } else k
  { s with scanner := { s.scanner with
      knobs := tab fun j => if j = i then s.scanner.knobs[j] else unmap s.scanner.knobs[j] } }

/-- A knob takes a mapping and the pickup state it gives (R98). -/
def mapKnobTo (i : Fin 48) (m : Option (Fin 64)) (s : State) : State :=
  match m with
  | none => modKnob i (fun k => { k with mapping := none, pickup := .locked }) s
  | some p =>
    let s1 := unmapOthers i p s
    let target := s.params.records[p].target
    let d := s.scanner.inEffect.deadband
    modKnob i (fun k => { k with
      mapping := some p
      pickup := if s.scanner.mode = .jump ∨ k.seeded = false then .locked else pickupOf d k.reported target }) s1

/-- The mapping with each parameter kept by the lowest-numbered knob that names it (R107). -/
def uniqueMapping (m : Vector (Option (Fin 64)) 48) : Vector (Option (Fin 64)) 48 :=
  tab fun i => if (List.finRange 48).any fun j => decide (j < i) && m[j].isSome && m[j] = m[i] then none else m[i]

/-- The scanner takes the stored mapping, scan settings and pickup mode (R107). -/
def loadScanner (mapping : Vector (Option (Fin 64)) 48) (scan : ScanSettings) (mode : PickupMode) (s : State) : State :=
  let m := uniqueMapping mapping
  { s with scanner := { s.scanner with
      requested := scan
      mode := mode
      knobs := tab fun i => { s.scanner.knobs[i] with mapping := m[i], pickup := .locked } } }

/-- RESTART of the Knob Scanner (R109). -/
def restartScanner (s : State) : State :=
  { s with scanner := { s.scanner with knobs := tab fun i => { s.scanner.knobs[i] with seeded := false } } }

/-- The low six bits of a bank set (R104). -/
def banksOf (b : Byte) : BitVec 6 := b.truncate 6

/-! ### Requests -/

/-- The parameter field of MAP_KNOB: 0..63, or 0xFF for none (R98); `none` when it is neither. -/
def mappingOf (b : Byte) : Option (Option (Fin 64)) := if b = 0xFF then some none else (indexOf 64 b).map some

/-- MAP_KNOB at the Knob Scanner (R98). -/
def serveMapKnob (knob param : Byte) : State → State × Option (List Byte) :=
  servedWhenReady fun s =>
    match indexOf 48 knob, mappingOf param with
    | some i, some m => (mapKnobTo i m s, answer .done)
    | _, _ => (s, answer .badArg)

/-- SET_PICKUP_MODE at the Knob Scanner (R99). -/
def serveSetPickupMode (mode : Byte) : State → State × Option (List Byte) :=
  servedWhenReady fun s =>
    match pickupModeOf mode.toNat with
    | none => (s, answer .badArg)
    | some .jump =>
      (if s.scanner.mode = .jump then s else lockAll { s with scanner := { s.scanner with mode := .jump } }, answer .done)
    | some .catch => ({ s with scanner := { s.scanner with mode := .catch } }, answer .done)

/-- SET_KNOB_SCAN at the Knob Scanner (R104). -/
def serveSetKnobScan (banks offset : Byte) (deadband : BitVec 16) : State → State × Option (List Byte) :=
  servedWhenReady fun s =>
    ({ s with scanner := { s.scanner with requested := scanOf (banksOf banks) offset.toInt deadband.toNat } }, answer .done)

/-- The three scan settings as GET_KNOB sends them (11.4). -/
def scanBytes (x : ScanSettings) : List Byte := [byteOf x.banks.toNat, BitVec.ofInt 8 x.offset] ++ word16 x.deadband

/-- GET_KNOB at the Knob Scanner (R105, 11.4). -/
def serveGetKnob (knob : Byte) : State → State × Option (List Byte) :=
  servedWhenReady fun s =>
    match indexOf 48 knob with
    | none => (s, answer .badArg)
    | some i =>
      let k := s.scanner.knobs[i]
      (s, answerData (word16 k.raw ++ word16 k.filtered ++ word16 k.reported ++
        [boolByte k.seeded, optByte (k.mapping.map Fin.val), pickupStateCode k.pickup] ++
        scanBytes s.scanner.inEffect ++ scanBytes s.scanner.requested ++
        [pickupModeCode s.scanner.mode] ++ word16 s.scanner.supply))

/-- MAP_KNOB (R98). -/
def execMapKnob (knob param : Byte) (s : State) : Host.Outcome State Fault Refusal :=
  .next (whenRunning (takeFrame false 0x30 (serveMapKnob knob param)) s)

/-- SET_PICKUP_MODE (R99). -/
def execSetPickupMode (mode : Byte) (s : State) : Host.Outcome State Fault Refusal :=
  .next (whenRunning (takeFrame false 0x31 (serveSetPickupMode mode)) s)

/-- SET_KNOB_SCAN (R104). -/
def execSetKnobScan (banks offset : Byte) (deadband : BitVec 16) (s : State) : Host.Outcome State Fault Refusal :=
  .next (whenRunning (takeFrame false 0x32 (serveSetKnobScan banks offset deadband)) s)

/-- GET_KNOB (R105). -/
def execGetKnob (knob : Byte) (s : State) : Host.Outcome State Fault Refusal :=
  .next (whenRunning (takeFrame false 0x33 (serveGetKnob knob)) s)

end Sys2Proof.Machine
end

