-- ==== Sys2Proof/Machine/Blocks.lean ====
section
/-! DEFINITION. The non-volatile store: cells, blocks, their checking and their programming (R127, R128, R129), and the
canonical form of the store. -/

namespace Sys2Proof.Machine

/-! ### Sparse lists: address and value pairs over a default -/

/-- What address `a` reads as: its listed value, or `dflt` when it is not listed. -/
def sparseRead {β : Type} (dflt : β) : List (Nat × β) → Nat → β
  | [], _ => dflt
  | (k, v) :: rest, a => if k = a then v else sparseRead dflt rest a

/-- Address `a` set to `b`; the canonical form is kept: writing the default removes the entry. -/
def sparseWrite {β : Type} [DecidableEq β] (dflt : β) : List (Nat × β) → Nat → β → List (Nat × β)
  | [], a, b => if b = dflt then [] else [(a, b)]
  | (k, v) :: rest, a, b =>
    if a < k then (if b = dflt then (k, v) :: rest else (a, b) :: (k, v) :: rest)
    else if a = k then (if b = dflt then rest else (a, b) :: rest)
    else (k, v) :: sparseWrite dflt rest a b

/-- Every listed address is above `a`. -/
def sparseAbove {β : Type} (a : Nat) (l : List (Nat × β)) : Bool := l.all fun e => decide (a < e.1)

/-- The canonical form: addresses strictly rising, no entry equal to the default. -/
def sparseWf {β : Type} [DecidableEq β] (dflt : β) : List (Nat × β) → Bool
  | [] => true
  | (k, v) :: rest => decide (v ≠ dflt) && sparseAbove k rest && sparseWf dflt rest

/-- An erased byte reads as all ones (R127): what an unlisted address of the store reads as. -/
def erasedByte : Byte := 0xFF

/-- The store is in its canonical form. -/
def Store.wf (st : Store) : Bool := sparseWf erasedByte st.cells && sparseWf 0 st.errors

/-- Patch Memory's store is in its canonical form. -/
def Memory.wf (m : Memory) : Bool := m.store.wf

/-! ### Blocks -/

/-- The blocks of the store: 0..1887 (R127). -/
def blockCount : Nat := 1888

/-- The byte at offset `i` of block `b`, as last programmed. -/
def storeByte (st : Store) (b i : Nat) : Byte := sparseRead erasedByte st.cells (8 * b + i)

/-- The eight data bytes of block `b`, as last programmed. -/
def blockData (st : Store) (b : Nat) : BitVec 64 :=
  BitVec.ofNat 64 (numberLE ((List.range 8).map fun i => storeByte st b i))

/-- The bits of block `b` now in error. -/
def blockErrors (st : Store) (b : Nat) : BitVec 72 := sparseRead 0 st.errors b

/-- The byte at offset `i` of a block's data. -/
def dataByte (d : BitVec 64) (i : Nat) : Byte := d.extractLsb' (8 * i) 8

/-- Block `b` programmed with data `d`, leaving the bits of `err` in error. -/
def programBlock (b : Nat) (d : BitVec 64) (err : BitVec 72) (st : Store) : Store :=
  { cells := (List.range 8).foldl (fun cs i => sparseWrite erasedByte cs (8 * b + i) (dataByte d i)) st.cells
    errors := sparseWrite 0 st.errors b err }

/-- Block `b` erased: all ones, consistent with its check bits (R127, R128). -/
def eraseBlock (b : Nat) (st : Store) : Store := programBlock b (BitVec.allOnes 64) 0 st

def eraseBlocks (bs : List Nat) (st : Store) : Store := bs.foldl (fun st b => eraseBlock b st) st

/-- The blocks `bs` programmed in turn with `ds`; `errs` gives the bits the cells took wrongly. -/
def programBlocks (errs : List BlockBits) : List Nat → List (BitVec 64) → Store → Store
  | b :: bs, d :: ds, st => programBlocks errs bs ds (programBlock b d (sparseRead 0 errs b) st)
  | _, _, st => st

/-- Bits of the store that have changed of themselves: each mask of an existing block is exclusive-ORed in. -/
def driftBlocks (ds : List BlockBits) (st : Store) : Store :=
  ds.foldl (fun st d =>
    if d.1 < blockCount then { st with errors := sparseWrite 0 st.errors d.1 (blockErrors st d.1 ^^^ d.2) } else st) st

/-! ### Checked reads (R128) -/

/-- What the check of a block finds (R128). -/
inductive Finding where
  | clean | one | two
  deriving DecidableEq, Repr

/-- The number of bits in error. -/
def errorWeight (e : BitVec 72) : Nat := ((List.range 72).filter fun i => e.getLsbD i).length

/-- The finding that a free reading of a block with three or more bits in error names. -/
def findingOfBits (f : BitVec 2) : Finding := if f = 0 then .clean else if f = 1 then .one else .two

/-- The finding of block `b` and the data the check would deliver (R128). With three or more bits in error both are free. -/
def checkBlock (st : Store) (b : Nat) : Finding × BitVec 64 :=
  let e := blockErrors st b
  if e = 0 then (.clean, blockData st b)
  else
    match errorWeight e with
    | 0 => (.clean, blockData st b)
    | 1 => (.one, blockData st b)
    | 2 => (.two, blockData st b)
    | _ =>
      let r := Config.heavyRead (blockData st b) e
      (findingOfBits r.1, r.2)

/-- The statistics after a block read with a finding (R128). -/
def countFinding (f : Finding) (b : Nat) (m : Memory) : Memory :=
  match f with
  | .clean => m
  | .one => { m with secCount := clampNat 0 255 (m.secCount + 1), lastSec := some b }
  | .two => { m with lastDed := some b }

/-- What a run of block reads gives: the data delivered in order, the blocks corrected, and whether a double error ended it. -/
structure BlocksRead where
  data : List (BitVec 64)
  sec : Nat
  double : Bool
  deriving DecidableEq, Repr

/-- Blocks read in the order given; a double error ends the read and the blocks after it are not read (R128, R129). -/
def readBlocks : List Nat → Memory → BlocksRead × Memory
  | [], m => ({ data := [], sec := 0, double := false }, m)
  | b :: bs, m =>
    let r := checkBlock m.store b
    let m1 := countFinding r.1 b m
    match r.1 with
    | .two => ({ data := [], sec := 0, double := true }, m1)
    | f =>
      let rest := readBlocks bs m1
      ({ data := r.2 :: rest.1.data, sec := rest.1.sec + (if f = .one then 1 else 0), double := rest.1.double }, rest.2)

/-- Blocks read back in the order given and compared bit for bit, data and check bits, with what was programmed; the
first mismatch ends it (step 5 of R132). Gives whether every block matched. -/
def verifyBlocks : List Nat → Memory → Bool × Memory
  | [], m => (true, m)
  | b :: bs, m =>
    let m1 := countFinding (checkBlock m.store b).1 b m
    if blockErrors m.store b = 0 then verifyBlocks bs m1 else (false, m1)

/-! ### Areas (R127) -/

/-- The 14 blocks of a slot. -/
def slotBlocks (slot : Nat) : List Nat := (List.range 14).map fun i => 14 * slot + i

/-- The 48 blocks of the tuning area. -/
def tuningBlocks : List Nat := (List.range 48).map fun i => 1792 + i

/-- The 48 blocks of the setup area. -/
def setupBlocks : List Nat := (List.range 48).map fun i => 1840 + i

/-- The format tag of a tag block's data is VALID (R186). -/
def tagValid (d : BitVec 64) : Bool := d.toNat % 128 = 0x35

/-- The protected flag of a tag block's data (R186). -/
def tagProtected (d : BitVec 64) : Bool := d.getLsbD 7

/-- A tag block's data with the format tag erased. -/
def withoutTag (d : BitVec 64) : BitVec 64 := d ||| 0x7F

/-- A slot or heading read (R129): its outcome, the blocks delivered with DONE, and the blocks corrected. -/
structure SlotRead where
  outcome : Code
  data : List (BitVec 64)
  sec : Nat
  deriving DecidableEq, Repr

/-- The tag block is read first, the `rest` only when the tag reads VALID (R129). -/
def readTagged (tag : Nat) (rest : List Nat) (m : Memory) : SlotRead × Memory :=
  let t := readBlocks [tag] m
  match t.1.data with
  | [] => ({ outcome := .corrupt, data := [], sec := 0 }, t.2)
  | d :: _ =>
    if tagValid d then
      let r := readBlocks rest t.2
      if r.1.double then ({ outcome := .corrupt, data := [], sec := t.1.sec + r.1.sec }, r.2)
      else ({ outcome := .done, data := d :: r.1.data, sec := t.1.sec + r.1.sec }, r.2)
    else ({ outcome := .empty, data := [], sec := t.1.sec }, t.2)

/-- A slot read (R129). -/
def readSlot (slot : Nat) (m : Memory) : SlotRead × Memory := readTagged (14 * slot) ((slotBlocks slot).drop 1) m

/-- A read of a slot's two heading blocks (R138, R139, R140). -/
def readHeading (slot : Nat) (m : Memory) : SlotRead × Memory := readTagged (14 * slot) [14 * slot + 1] m

end Sys2Proof.Machine
end

