-- ==== Sys2Proof/Machine/Formats.lean ====
section
/-! DEFINITION. Stored records (R186, R187): the patch record, the tuning area and the setup area, written and read. -/

namespace Sys2Proof.Machine

/-! ### The patch record (R186) -/

/-- The field of `width` bits at bit `lo` of a record. -/
def recordField (r : BitVec 896) (lo width : Nat) : Nat := (r.toNat >>> lo) % 2 ^ width

/-- The record whose blocks are `ds`, block order. -/
def recordOfBlocks : List (BitVec 64) → Nat
  | [] => 0
  | d :: ds => d.toNat + 2 ^ 64 * recordOfBlocks ds

/-- Block `i` of a record. -/
def recordBlock (r : BitVec 896) (i : Nat) : BitVec 64 := r.extractLsb' (64 * i) 64

/-- The 14 blocks of a record. -/
def recordBlocks (r : BitVec 896) : List (BitVec 64) := (List.range 14).map (recordBlock r)

/-- The 14 blocks of a record with the format tag left erased (step 4 of R132). -/
def recordBlocksUntagged (r : BitVec 896) : List (BitVec 64) :=
  withoutTag (recordBlock r 0) :: ((List.range 13).map fun i => recordBlock r (i + 1))

def recordMorphTime (r : BitVec 896) : Nat := recordField r 8 11

/-- The voice setup of a record's heading; `none` when a field is out of range in the sense of R41 (R135, R186). -/
def recordSetup (r : BitVec 896) : Option VoiceSetup :=
  setupOfCodes (recordField r 19 1) (2 ^ recordField r 20 2) (recordField r 22 2) (recordField r 24 1) (recordField r 25 1)
    (recordField r 26 1) (recordField r 27 2) (recordField r 29 1) (recordField r 30 2) (recordField r 32 5)
    (recordField r 37 4) (recordField r 41 3 + 1)

def recordName (r : BitVec 896) : List Nat := (List.range 12).map fun j => recordField r (44 + 7 * j) 7

def recordValue (r : BitVec 896) (p : Fin 64) : Nat := recordField r (128 + 12 * p.val) 12

/-- A name character is printable: 0x20..0x7E (6.5 of 00_scope.md). -/
def printable (c : Nat) : Bool := decide (0x20 ≤ c) && decide (c ≤ 0x7E)

/-- The checks of WRITE_PATCH over a record (R137, R186). -/
def recordWritable (r : BitVec 896) : Bool :=
  decide (recordField r 0 7 = 0x35) && decide (recordMorphTime r ≤ 2000) && (recordSetup r).isSome &&
    (recordName r).all printable

/-- The stack code of a stack size (R186). -/
def stackCode (n : Nat) : Nat := if n = 8 then 3 else if n = 4 then 2 else if n = 2 then 1 else 0

def modeCode : Mode → Nat
  | .poly => 0
  | .mono => 1

def assignCode : AssignPolicy → Nat
  | .rotate => 0
  | .reuse => 1
  | .lowest => 2

def stealCode : StealPolicy → Nat
  | .oldest => 0
  | .quietest => 1

def priorityCode : MonoPriority → Nat
  | .last => 0
  | .low => 1
  | .high => 2

def glideCode : GlideMode → Nat
  | .off => 0
  | .always => 1
  | .legato => 2

/-- The number whose fields, given as (width, value) from bit 0 up, are `fs`. -/
def packFields : List (Nat × Nat) → Nat
  | [] => 0
  | (w, x) :: fs => x % 2 ^ w + 2 ^ w * packFields fs

/-- The record a store writes: VALID, the protected flag, the morph time, the setup, the name and the values (R136, R186). -/
def makeRecord (prot : Bool) (morphTime : Nat) (v : VoiceSetup) (name : List Nat) (values : List Nat) : BitVec 896 :=
  BitVec.ofNat 896 (packFields
    ([(7, 0x35), (1, boolBit prot 0), (11, morphTime), (1, modeCode v.mode), (2, stackCode v.stack),
      (2, assignCode v.assign), (1, stealCode v.steal), (1, boolBit v.keepTop 0), (1, boolBit v.returning 0),
      (2, priorityCode v.priority), (1, boolBit v.retrigger 0), (2, glideCode v.glide), (5, v.bendRange), (4, v.gap),
      (3, v.width - 1)] ++ name.map (fun c => (7, c)) ++ values.map (fun x => (12, x))))

/-- The record of the live sound: the targets, the setup and the morph time in effect (R87, R136). -/
def liveRecord (prot : Bool) (name : List Nat) (s : State) : BitVec 896 :=
  makeRecord prot s.params.morphTime s.assigner.setup name (s.params.records.toList.map Param.target)

/-- The twelve characters of a STORE name. -/
def nameChars (name : BitVec 96) : List Nat := (List.range 12).map fun j => (name.extractLsb' (8 * j) 8).toNat

/-- The 112 bytes of a record (R138). -/
def recordBytes (r : BitVec 896) : List Byte := bytesLE 112 r.toNat

/-! ### Areas as bytes -/

/-- The bytes of a run of blocks. -/
def blocksToBytes (ds : List (BitVec 64)) : List Byte := ds.flatMap fun d => bytesLE 8 d.toNat

/-- The `n` blocks of a byte image. -/
def bytesToBlocks : Nat → List Byte → List (BitVec 64)
  | 0, _ => []
  | n + 1, bs => BitVec.ofNat 64 (numberLE (bs.take 8)) :: bytesToBlocks n (bs.drop 8)

/-- The number of `count` bytes at offset `i` of an image. -/
def imageNumber (img : List Byte) (i count : Nat) : Nat := numberLE ((img.drop i).take count)

/-! ### The tuning area (R187) -/

/-- The image of the tuning area: the entries of each oscillator in two blocks, then the statuses. -/
def tuningImage (t : Vector (Vector Point 8) 16) : List (BitVec 64) :=
  bytesToBlocks 48
    ((t.toList.flatMap fun row => row.toList.flatMap fun q => word16 q.entry) ++
      (t.toList.flatMap fun row => row.toList.map fun q => statusCode q.status))

/-- The point of a tuning image; its status byte may hold no status code. -/
def imagePoint (img : List Byte) (osc : Fin 16) (k : Fin 8) : Nat × Option TuneStatus :=
  (imageNumber img (16 * osc.val + 2 * k.val) 2, statusOf (imageNumber img (256 + 8 * osc.val + k.val) 1))

/-- Every status byte of a tuning image holds a status code (R144). -/
def tuningImageValid (img : List Byte) : Bool :=
  (List.finRange 16).all fun o => (List.finRange 8).all fun k => (imagePoint img o k).2.isSome

/-- The tuning table of an image, every residual 0 (R144, R148). -/
def tableOfImage (img : List Byte) : Vector (Vector Point 8) 16 :=
  tab fun o => tab fun k =>
    { entry := (imagePoint img o k).1, status := ((imagePoint img o k).2).getD .untuned, residual := 0 }

/-! ### The setup area (R187) -/

/-- The eight bytes of the setup tag. -/
def setupTag : List Byte := [0x5A, 0xA5, 0x5A, 0xA5, 0x5A, 0xA5, 0x5A, 0xA5]

/-- A group's 28 bytes: conditions (24), latched, action, slot and one unused byte. -/
def groupImage (g : Group) : List Byte :=
  bytesLE 24 (packFields (g.conditions.toList.map fun c => (3, conditionCode c))) ++
    [boolByte g.latched, byteOf (actionCode g.action), byteOf (actionSlot g.action), 0]

/-- The image of the setup area from the live settings of its owners (R142, R187). -/
def setupImage (s : State) : List (BitVec 64) :=
  let d := s.tune.defaults
  bytesToBlocks 48
    ((s.scanner.knobs.toList.map fun k => optByte (k.mapping.map Fin.val)) ++ scanBytes s.scanner.requested ++
      [pickupModeCode s.scanner.mode] ++
      (s.matrix.switches.toList.flatMap fun x =>
        [byteOf (specCode x.spec + 4 * actionCode x.action), byteOf (actionSlot x.action)]) ++
      (s.matrix.groups.toList.flatMap groupImage) ++
      bytesLE 16 (packFields (s.matrix.lamps.toList.map fun l => (2, bindingCode l.binding))) ++
      [byteOf s.matrix.debounce] ++ word16 s.matrix.onTime ++ word16 s.matrix.offTime ++ word16 s.link.mask.toNat ++
      bytesLE 4 s.tune.reference ++
      [d.scope, depthCode d.depth,
        byteOf (boolBit d.force 0 + boolBit d.save 1 + boolBit d.disableFailed 2 + boolBit d.hysteresis 3 +
          boolBit (decide (d.polarity = .falling)) 4),
        byteOf d.settle] ++
      [byteOf s.memory.powerOnSlot] ++ List.replicate 51 0 ++ setupTag)

/-- The stored mapping of knob `i`: a value 64..254 loads as none (R187). -/
def imageMapping (img : List Byte) (i : Fin 48) : Option (Fin 64) :=
  let b := imageNumber img i.val 1
  if h : b < 64 then some ⟨b, h⟩ else none

/-- The stored scan settings, clamped as in R104 (R107). -/
def imageScan (img : List Byte) : ScanSettings :=
  scanOf (BitVec.ofNat 6 (imageNumber img 48 1)) (BitVec.ofNat 8 (imageNumber img 49 1)).toInt (imageNumber img 50 2)

/-- The stored pickup mode; a byte that holds neither code gives a free mode (log entry 19). -/
def imagePickupMode (img : List Byte) : PickupMode :=
  let b := imageNumber img 52 1
  match pickupModeOf b with
  | some m => m
  | none => if Config.storedPickupMode (byteOf b) then .catch else .jump

/-- The stored report spec of switch `i`. -/
def imageSpec (img : List Byte) (i : Fin 64) : ReportSpec := (specOf (imageNumber img (53 + 2 * i.val) 1 % 4)).getD .none

/-- The stored action of switch `i`; out of range loads as NONE (R125). -/
def imageAction (img : List Byte) (i : Fin 64) : Action :=
  (actionOf (imageNumber img (53 + 2 * i.val) 1 / 4 % 8) (imageNumber img (54 + 2 * i.val) 1)).getD .none

/-- The stored group `g`, its previous truth false; a value out of range loads as its power-on value (R125). -/
def imageGroup (img : List Byte) (g : Fin 4) : Group :=
  let start := 181 + 28 * g.val
  let conds := imageNumber img start 24
  { conditions := tab fun i => (conditionOf ((conds >>> (3 * i.val)) % 8)).getD .ignore
    latched := (flagOf (byteOf (imageNumber img (start + 24) 1))).getD false
    action := (groupActionOf (imageNumber img (start + 25) 1) (imageNumber img (start + 26) 1)).getD .none
    previous := false }

/-- The stored binding of lamp `i` (R125). -/
def imageBinding (img : List Byte) (i : Fin 64) : LampBinding :=
  (bindingOf ((imageNumber img 293 16 >>> (2 * i.val)) % 4)).getD .none

/-- The stored default tune settings; a code outside its list loads as its power-on value (R150). -/
def imageDefaults (img : List Byte) : TuneDefaults :=
  let flags := imageNumber img 322 1
  { scope := byteOf (imageNumber img 320 1)
    depth := (depthOf (imageNumber img 321 1)).getD .fine
    force := flags.testBit 0
    save := flags.testBit 1
    disableFailed := flags.testBit 2
    hysteresis := flags.testBit 3
    polarity := if flags.testBit 4 then .falling else .rising
    settle := clampNat 1 50 (imageNumber img 323 1) }

/-- The stored tuning reference; outside 200,000..420,000 it loads as the default (R149). -/
def imageReference (img : List Byte) : Nat :=
  let t := imageNumber img 316 4
  if 200000 ≤ t ∧ t ≤ 420000 then t else Config.defaultReference

/-- The stored power-on slot; a value above 127 loads as 0 (R187). -/
def imagePowerOnSlot (img : List Byte) : Nat :=
  let n := imageNumber img 324 1
  if n ≤ 127 then n else 0

/-- The matrix takes its stored settings; the blink times and the depth are loaded, lamp states and the timer stay (R125). -/
def loadMatrix (img : List Byte) (m : Matrix) : Matrix :=
  { m with
    switches := tab fun i => { m.switches[i] with spec := imageSpec img i, action := imageAction img i }
    groups := tab fun g => imageGroup img g
    lamps := tab fun i => { m.lamps[i] with binding := imageBinding img i }
    debounce := (debounceOf (imageNumber img 309 1)).getD 2
    onTime := clampNat 50 2000 (imageNumber img 310 2)
    offTime := clampNat 50 2000 (imageNumber img 312 2) }

/-- The stored items of a setup area handed to their owners (step 1 of R144). -/
def applySetupImage (img : List Byte) (s : State) : State :=
  let s1 := loadScanner (tab fun i => imageMapping img i) (imageScan img) (imagePickupMode img) s
  { s1 with
    matrix := loadMatrix img s1.matrix
    link := { s1.link with mask := BitVec.ofNat 11 (imageNumber img 314 2) }
    tune := { s1.tune with reference := imageReference img, defaults := imageDefaults img }
    memory := { s1.memory with powerOnSlot := imagePowerOnSlot img } }

end Sys2Proof.Machine
end

