-- ==== Sys2Proof/Machine/Channels.lean ====
section
/-! DEFINITION. The measurement channels and the point search of the Tune Unit (R157 to R163), and the mark of a taken
voice (R154, R155). -/

namespace Sys2Proof.Machine

/-- A trial begins: the code is written as the oscillator's override and the channel waits for its delivery (R158). The cycle and
period counters are cleared here (DESIGN CHOICE, log entry 44: R157 does not say when they are). -/
def beginTrial (c : Fin 4) (osc : Fin 16) (code : Nat) (s : State) : State :=
  writeOverride osc code
    (modChannel c (fun ch => { ch with phase := .delivery, code := code, cycle := 0, period := 0, timer := 0 }) s)

/-- The search trials of a depth (R160). -/
def trialsOf : Depth → Nat
  | .fine => 8
  | .full => 12

/-- The base code of a point's window (R160). -/
def baseOf (d : Depth) (t : Vector (Vector Point 8) 16) (osc : Fin 16) (k : Fin 8) : Nat :=
  match d with
  | .fine => t[osc][k].entry
  | .full => Config.nominalEntry k.val

/-- The low end of the window: B − h, clamped to 0..65535 − 2^n, with h = 2^(n − 1) (R160). -/
def windowLow (base n : Nat) : Nat := clampNat 0 (65535 - 2 ^ n) (base - 2 ^ (n - 1))

/-- A channel begins point `k` of its oscillator with its first trial (R160, R163). -/
def beginPoint (c : Fin 4) (osc : Fin 16) (k : Fin 8) (depth : Depth) (s : State) : State :=
  let n := trialsOf depth
  let base := baseOf depth s.tune.table osc k
  let low := windowLow base n
  beginTrial c osc (low + 2 ^ (n - 1))
    (modChannel c (fun _ => { Channel.idle with
      osc := some osc, point := k, low := low, trials := n, base := base, index := .search (n - 1), c := low }) s)

/-- The channel of a round position for oscillator A or B (R153). -/
def channelOf (pos : Nat) (isB : Bool) : Fin 4 := Fin.ofNat 4 (2 * pos + if isB then 1 else 0)

/-- The two channels of a taken voice start together (R154, R163). -/
def startChannels (pos : Nat) (v : Fin 8) (depth : Depth) (s : State) : State :=
  beginPoint (channelOf pos true) (oscB v) 0 depth (beginPoint (channelOf pos false) (oscA v) 0 depth s)

/-- The marks with voice `v` marked `m`. -/
def setMark (v : Fin 8) (m : Mark) (ms : List (Fin 8 × Mark)) : List (Fin 8 × Mark) :=
  ms.map fun e => if e.1 = v then (v, m) else e

/-- The round position of a voice. -/
def positionOf (v : Fin 8) (ms : List (Fin 8 × Mark)) : Nat := ms.findIdx fun e => e.1 = v

/-- The Voice Table announces that a round voice has become TUNING: its mark becomes TAKEN, its channels start, and the
wait limit is cleared when no voice is left reserved (R154, R155). -/
def voiceTaken (v : Fin 8) (s : State) : State :=
  match s.tune.job with
  | none => s
  | some j =>
    let marks := setMark v .taken j.marks
    let j' := { j with marks := marks, wait := if marks.any (fun m => m.2 = .reserved) then j.wait else 0 }
    startChannels (positionOf v marks) v j.depth (modJob (fun _ => j') s)

/-- The channel goes on to the next point, or ends after point 7 (R163). At the end its cycle counter and timer are cleared and its
period counter kept (DESIGN CHOICE, log entry 44). -/
def nextPoint (c : Fin 4) (osc : Fin 16) (k : Fin 8) (depth : Depth) (s : State) : State :=
  if h : k.val + 1 < 8 then beginPoint c osc ⟨k.val + 1, h⟩ depth s
  else modChannel c (fun ch => { ch with phase := .ended, cycle := 0, timer := 0 }) s

/-- Write one point record of the tuning table (R148). -/
def writePoint (osc : Fin 16) (k : Fin 8) (f : Point → Point) (s : State) : State :=
  { s with tune := { s.tune with table := upd s.tune.table osc fun row => upd row k f } }

/-- The job's count of ended points rises (R161, R162). -/
def countPoint (ok : Bool) (s : State) : State :=
  modJob (fun j => if ok then { j with okCount := j.okCount + 1 } else { j with failedCount := j.failedCount + 1 }) s

/-- The status of a point from the end of its search (R161). -/
def searchStatus (c low n : Nat) : TuneStatus :=
  if c = low + 2 ^ n - 1 then .outLow else if c = low then .outHigh else .ok

/-- The end of a point after its confirming trial (R161). -/
def endPoint (c : Fin 4) (osc : Fin 16) (count : Nat) (depth : Depth) (s : State) : State :=
  let ch := s.tune.channels[c]
  let status := searchStatus ch.c ch.low ch.trials
  let residual := clampInt (-32767) 32767 ((count : Int) - (s.tune.reference : Int))
  nextPoint c osc ch.point depth
    (countPoint (decide (status = .ok)) (writePoint osc ch.point (fun _ => { entry := ch.c + 1, status, residual }) s))

/-- A search trial's verdict updates C and the next trial begins: trial i − 1, or the confirming trial at C + 1 after
trial 0 (R160, R161). -/
def searchStep (c : Fin 4) (osc : Fin 16) (i : Nat) (flat : Bool) (s : State) : State :=
  let ch := s.tune.channels[c]
  let found := if flat then ch.c + 2 ^ i else ch.c
  match i with
  | 0 => beginTrial c osc (found + 1) (modChannel c (fun ch => { ch with c := found, index := .confirm }) s)
  | i + 1 => beginTrial c osc (found + 2 ^ i) (modChannel c (fun ch => { ch with c := found, index := .search i }) s)

/-- The end of a trial that is not NO_SIGNAL, with its count and its verdict (R159, R160, R161). -/
def endTrial (c : Fin 4) (count : Nat) (flat : Bool) (s : State) : State :=
  match s.tune.job, s.tune.channels[c].osc with
  | some j, some osc =>
    match s.tune.channels[c].index with
    | .search i => searchStep c osc i flat s
    | .confirm => endPoint c osc count j.depth s
  | _, _ => s

/-- A trial that ends NO_SIGNAL ends its point with the entry kept (R162). -/
def endSilentPoint (c : Fin 4) (s : State) : State :=
  match s.tune.job, s.tune.channels[c].osc with
  | some j, some osc =>
    let k := s.tune.channels[c].point
    nextPoint c osc k j.depth
      (countPoint false (writePoint osc k (fun q => { q with status := .noSignal, residual := 0 }) s))
  | _, _ => s

/-- The period counter after `clocks` further reference clocks with the gate open (R157); it stops at its top, which
R159 says it never reaches. -/
def countClocks (period clocks : Nat) : Nat := clampNat 0 16777215 (period + clocks)

/-- The comparator detects an edge at a crossing, by the job's hysteresis and polarity (R157). -/
def isEdge (j : Job) (x : TapCrossing) : Bool :=
  match x with
  | .upperAfterLower => j.hysteresis && decide (j.polarity = .rising)
  | .lowerAfterUpper => j.hysteresis && decide (j.polarity = .falling)
  | .midRising => !j.hysteresis && decide (j.polarity = .rising)
  | .midFalling => !j.hysteresis && decide (j.polarity = .falling)

/-- The channel that serves an oscillator, if one does. -/
def channelServing (osc : Fin 16) (t : Tune) : Option (Fin 4) :=
  [0, 1, 2, 3].find? fun c : Fin 4 => t.channels[c].osc = some osc

/-- A detected edge in FIRST_EDGE opens the gate; one in COUNTING lowers the cycle counter and at 0 closes the gate and
ends the trial; in every other phase edges are disregarded (R157, R158, R159). -/
def channelEdge (c : Fin 4) (clocks : Nat) (s : State) : State :=
  let ch := s.tune.channels[c]
  match ch.phase with
  | .firstEdge =>
    modChannel c (fun ch => { ch with phase := .counting, cycle := 2 ^ ch.point.val, period := 0, timer := 200 }) s
  | .counting =>
    let period := countClocks ch.period clocks
    let s' := modChannel c (fun ch => { ch with cycle := ch.cycle - 1, period := period }) s
    if ch.cycle ≤ 1 then endTrial c period (decide (s.tune.reference < period)) s' else s'
  | _ => s

/-- A crossing that is no edge: an open gate goes on counting reference clocks (R157). -/
def channelClocks (c : Fin 4) (clocks : Nat) (s : State) : State :=
  if s.tune.channels[c].phase = .counting then modChannel c (fun ch => { ch with period := countClocks ch.period clocks }) s else s

/-- The Output Refresh Sequencer announces a slot that delivered the current override of `osc`: the channel that wrote it
starts its settle wait (R71, R158). -/
def overrideDelivered (osc : Fin 16) (s : State) : State :=
  match s.tune.job, channelServing osc s.tune with
  | some j, some c =>
    if s.tune.channels[c].phase = .delivery then modChannel c (fun ch => { ch with phase := .settle, timer := j.settle }) s else s
  | _, _ => s

end Sys2Proof.Machine
end

