-- ==== Sys2Proof/Machine/Voices.lean ====
section
/-! DEFINITION. The Voice Table's orders (R7 to R15) and the Note Assigner's choosing, voicing, waiting and reassignment
(R20 to R37, R43). -/

namespace Sys2Proof.Machine

/-! ### Orders carried out by the Voice Table -/

/-- The gate phase that a release, a cut or an entry into TUNING or OFF leaves (section 1.3). -/
def dropGate : GatePhase → GatePhase
  | .armed => .low
  | .high => .low
  | .gap => .gap
  | .low => .low

/-- The gate phase after a note start with retrigger gap `g` (section 1.3, step 4 of R7). -/
def startGate (g : Nat) : GatePhase → GatePhase
  | .high => if 0 < g then .gap else .armed
  | .gap => .gap
  | .low => .armed
  | .armed => .armed

/-- The gap remaining after a note start with retrigger gap `g` (step 4 of R7). -/
def startGap (g : Nat) (x : Voice) : Nat :=
  match x.gate with
  | .high => if 0 < g then g else x.gap
  | .gap => if 0 < g then g else x.gap
  | _ => x.gap

/-- The voice record after a note start (R7). -/
def startRecord (key vel pos : Nat) (jump : Bool) (g : Nat) (x : Voice) : Voice :=
  { x with
    state := .sounding
    key := some key
    lastKey := some key
    velocity := vel
    stackPos := pos
    glideTarget := some (key * 256)
    glide := if jump then some (key * 256) else x.glide
    release := if x.state = .releasing then 0 else x.release
    refreshedA := false
    refreshedB := false
    gate := startGate g x.gate
    gap := startGap g x }

/-- A voice order list without `v`. -/
def without (v : Fin 8) (l : List (Fin 8)) : List (Fin 8) := l.filter fun w => w ≠ v

/-- Remove `v` from the release order list (R4). -/
def leaveRelease (v : Fin 8) (s : State) : State :=
  { s with table := { s.table with releaseOrder := without v s.table.releaseOrder } }

/-- A note start on voice `v`, performed in FREE, SOUNDING, SUSTAINED and RELEASING (R7, R69). -/
def noteStart (v : Fin 8) (key vel pos : Nat) (jump : Bool) (s : State) : State :=
  if (s.voice v).state.playable then
    let s1 := modVoice v (startRecord key vel pos jump s.assigner.setup.gap) (leaveRelease v s)
    markStale v { s1 with table := { s1.table with startOrder := without v s1.table.startOrder ++ [v] } }
  else s

/-- A legato change of voice `v` (R11). -/
def legatoChange (v : Fin 8) (key : Nat) (jump : Bool) (s : State) : State :=
  modVoice v (fun x => { x with
    key := some key, lastKey := some key, glideTarget := some (key * 256),
    glide := if jump then some (key * 256) else x.glide }) s

/-- The release hold of a value of parameter 8 (R12). -/
def releaseTime (v8 : Nat) : Nat := 5 + 2 * v8

/-- A voice enters RELEASING (R12). -/
def toReleasing (v : Fin 8) (s : State) : State :=
  let s1 := modVoice v (fun x => { x with state := .releasing, gate := dropGate x.gate, release := releaseTime (s.param 8) }) s
  { s1 with table := { s1.table with releaseOrder := without v s1.table.releaseOrder ++ [v] } }

/-- A key release of a SOUNDING voice `v` (R12). -/
def keyRelease (v : Fin 8) (s : State) : State :=
  if (s.voice v).state = .sounding then
    if s.assigner.pedalDown then modVoice v (fun x => { x with state := .sustained }) s else toReleasing v s
  else s

/-- The record of a voice that leaves play for `dest` (R14, R15): its gate drops, its key and release hold are cleared; an
entry into TUNING clears the reserved mark and an entry into OFF the enable flag. -/
def leavePlay (dest : VoiceState) (x : Voice) : Voice :=
  { x with
    state := dest
    key := none
    gate := dropGate x.gate
    release := 0
    reserved := if dest = .tuning then false else x.reserved
    enabled := if dest = .off then false else x.enabled }

/-- A voice in FREE, SOUNDING, SUSTAINED or RELEASING leaves play for `dest`, and the release order list if it stood there. -/
def removeVoice (v : Fin 8) (dest : VoiceState) (s : State) : State :=
  if (s.voice v).state.playable then modVoice v (leavePlay dest) (leaveRelease v s) else s

/-! ### The Note Assigner's lists -/

/-- The keys of the key list, oldest arrival first. -/
def heldKeys (s : State) : List Nat := s.assigner.keyList.map KeyEntry.key

def entryOf (key : Nat) (s : State) : Option KeyEntry := s.assigner.keyList.find? fun e => e.key = key

/-- The velocity of a key's entry; a key that is voiced from the list always has one. -/
def entryVelocity (key : Nat) (s : State) : Nat := ((entryOf key s).map KeyEntry.velocity).getD 127

/-- The voices of a key's entry replaced by their image under `f`. -/
def modEntry (key : Nat) (f : List (Fin 8) → List (Fin 8)) (s : State) : State :=
  { s with assigner := { s.assigner with
      keyList := s.assigner.keyList.map fun e => if e.key = key then { e with voices := f e.voices } else e } }

/-- Remove a key's entry from the key list. -/
def removeEntry (key : Nat) (s : State) : State :=
  { s with assigner := { s.assigner with keyList := s.assigner.keyList.filter fun e => e.key ≠ key } }

/-- Remove a key from the waiting list (R21). -/
def leaveWaiting (key : Nat) (s : State) : State :=
  { s with assigner := { s.assigner with waiting := s.assigner.waiting.filter fun k => k ≠ key } }

/-- A key joins the waiting list at its newest end; with 16 keys waiting the oldest is dropped first (R21). -/
def joinWaiting (key : Nat) (s : State) : State :=
  if s.assigner.waiting.contains key then s
  else
    let w := if 16 ≤ s.assigner.waiting.length then s.assigner.waiting.drop 1 else s.assigner.waiting
    { s with assigner := { s.assigner with waiting := w ++ [key] } }

/-- A voice is lost to the key it was playing. The key joins the waiting list when its entry is left without a voice and
`joins` holds (R28, R34). -/
def leaveEntry (v : Fin 8) (key : Nat) (joins : Bool) (s : State) : State :=
  let s1 := modEntry key (without v) s
  match entryOf key s1 with
  | some e => if joins && e.voices.isEmpty then joinWaiting key s1 else s1
  | none => s1

/-- The loss of a voice cut by a tune take, the wait limit or VOICE_ENABLE off; `x` is its record before the cut (R34, R37). -/
def voiceLost (v : Fin 8) (x : Voice) (s : State) : State :=
  if x.state = .sounding then
    match s.assigner.setup.mode, x.key with
    | .poly, some key => leaveEntry v key true s
    | .mono, _ => { s with assigner := { s.assigner with monoStack := without v s.assigner.monoStack } }
    | _, none => s
  else s

/-- A cut announced to the Note Assigner (R14). -/
def cutVoice (v : Fin 8) (dest : VoiceState) (s : State) : State := voiceLost v (s.voice v) (removeVoice v dest s)

/-! ### Choosing a voice (R25 to R27) -/

/-- The jump flag of a note start or legato change to `key`; `held` are the keys of the key list immediately before the
event (R29). -/
def jumpFlag (mode : GlideMode) (glide : Option Nat) (held : List Nat) (key : Nat) : Bool :=
  match glide, mode with
  | none, _ => true
  | some _, .off => true
  | some _, .always => false
  | some _, .legato => !held.any fun k => k ≠ key

def voiceJump (v : Fin 8) (held : List Nat) (key : Nat) (s : State) : Bool :=
  jumpFlag s.assigner.setup.glide (s.voice v).glide held key

/-- The available voice with property `p` that stands first in `order`. -/
def firstOf (order : List (Fin 8)) (p : Voice → Bool) (s : State) : Option (Fin 8) :=
  order.find? fun v => (s.voice v).available && p (s.voice v)

/-- The voice indices from the rotate pointer upward, wrapping from 7 to 0 (R26). -/
def rotation (start : Fin 8) : List (Fin 8) := (List.finRange 8).map fun i => start + i

/-- Step 2 of the chain: a FREE voice by the assign policy (R26). -/
def chooseFree (key : Nat) (s : State) : Option (Fin 8) :=
  let free := fun x : Voice => x.state = .free
  match s.assigner.setup.assign with
  | .rotate => firstOf (rotation s.table.rotate) free s
  | .reuse =>
    match firstOf s.table.startOrder (fun x => free x && x.lastKey = some key) s with
    | some v => some v
    | none => firstOf s.table.startOrder free s
  | .lowest => firstOf (List.finRange 8) free s

/-- The highest key of the key list. -/
def highestKey (s : State) : Option Nat := (heldKeys s).max?

/-- The first of `cands` with the lowest velocity. -/
def quietest (s : State) : List (Fin 8) → Option (Fin 8)
  | [] => none
  | v :: vs =>
    match quietest s vs with
    | none => some v
    | some w => if (s.voice w).velocity < (s.voice v).velocity then some w else some v

/-- The candidates of step 5, oldest in the start order list first (R27). -/
def stealCandidates (key : Nat) (keepTop : Bool) (s : State) : List (Fin 8) :=
  let cands := s.table.startOrder.filter fun v =>
    (s.voice v).available && (s.voice v).state = .sounding && (s.voice v).key ≠ some key
  let kept := cands.filter fun v => (s.voice v).key ≠ highestKey s
  if keepTop && !kept.isEmpty then kept else cands

/-- Step 5 of the chain (R27). -/
def chooseSteal (key : Nat) (keepTop : Bool) (s : State) : Option (Fin 8) :=
  match s.assigner.setup.steal with
  | .oldest => (stealCandidates key keepTop s).head?
  | .quietest => quietest s (stealCandidates key keepTop s)

/-- The choosing chain for `key` (R25): the first step that offers a candidate, and that step's first candidate. -/
def chooseVoice (key : Nat) (keepTop : Bool) (s : State) : Option (Fin 8) :=
  (firstOf s.table.startOrder (fun x => (x.state = .sustained || x.state = .releasing) && x.key = some key) s).or
    ((chooseFree key s).or
      ((firstOf s.table.releaseOrder (fun x => x.state = .releasing) s).or
        ((firstOf s.table.startOrder (fun x => x.state = .sustained) s).or (chooseSteal key keepTop s))))

/-- What the taking of a chosen voice changes beside its own note start: ROTATE moves its pointer past a FREE voice
(R26), and a stolen voice leaves the voice set of the key it was playing, which may then wait (R28). `x` is the voice's
record before its note start. -/
def settleChoice (v : Fin 8) (x : Voice) (s : State) : State :=
  match x.state with
  | .free =>
    if s.assigner.setup.assign = .rotate then { s with table := { s.table with rotate := v + 1 } } else s
  | .sounding =>
    match s.assigner.setup.mode, x.key with
    | .poly, some k => leaveEntry v k s.assigner.setup.returning s
    | _, _ => s
  | _ => s

/-- One voice more for `key`, chosen by the chain (R24); `join` records it in the key's entry or in the mono stack. -/
def chainOnce (key vel pos : Nat) (held : List Nat) (keepTop : Bool) (join : Fin 8 → State → State) (s : State) :
    Option State :=
  (chooseVoice key keepTop s).map fun v =>
    join v (settleChoice v (s.voice v) (noteStart v key vel pos (voiceJump v held key s) s))

/-- Up to `n` voices more for `key` from stack position `pos` on, until the chain finds no candidate (R24, R28). -/
def chain (key vel : Nat) (held : List Nat) (keepTop : Bool) (join : Fin 8 → State → State) : Nat → Nat → State → State
  | 0, _, s => s
  | n + 1, pos, s =>
    match chainOnce key vel pos held keepTop join s with
    | none => s
    | some s' => chain key vel held keepTop join n (pos + 1) s'

/-- A voice joins the voice set of a key's entry. -/
def joinEntry (key : Nat) (v : Fin 8) (s : State) : State := modEntry key (fun vs => vs ++ [v]) s

/-- A voice joins the mono stack. -/
def joinStack (v : Fin 8) (s : State) : State :=
  { s with assigner := { s.assigner with monoStack := s.assigner.monoStack ++ [v] } }

/-! ### Waiting keys and returned voices (R32, R33, R37) -/

/-- The newest waiting key, if any, is given voice `v` (R32, R33). -/
def serveWaiting (v : Fin 8) (held : List Nat) (s : State) : State :=
  match s.assigner.waiting.getLast? with
  | none => s
  | some key =>
    modEntry key (fun _ => [v])
      (leaveWaiting key (noteStart v key (entryVelocity key s) 0 (voiceJump v held key s) s))

/-- The lowest stack position held by no voice of the mono stack (R37). -/
def lowestFreePosition (s : State) : Nat :=
  ((List.range 8).find? fun p => !s.assigner.monoStack.any fun v => (s.voice v).stackPos = p).getD 8

/-- A voice returned to service: it serves a waiting key in POLY and refills the stack in MONO (R33, R37). -/
def voiceReturned (v : Fin 8) (s : State) : State :=
  match s.assigner.setup.mode with
  | .poly => serveWaiting v (heldKeys s) s
  | .mono =>
    match s.assigner.monoKey with
    | none => s
    | some key =>
      if s.assigner.monoStack.length < s.assigner.setup.stack then
        joinStack v (noteStart v key (entryVelocity key s) (lowestFreePosition s) (voiceJump v (heldKeys s) key s) s)
      else s

/-- A release end announced to the Note Assigner: in POLY with returning on it serves a waiting key (R33). -/
def releaseEnded (v : Fin 8) (s : State) : State :=
  match s.assigner.setup.mode with
  | .poly => if s.assigner.setup.returning then serveWaiting v (heldKeys s) s else s
  | .mono => s

/-! ### Orders of the Tune Unit (R15) -/

/-- A take order: FREE, or busy with force, becomes TUNING; busy without force becomes reserved; OFF is not taken. -/
def takeVoice (v : Fin 8) (force : Bool) (s : State) : State × Mark :=
  match (s.voice v).state with
  | .free => (removeVoice v .tuning s, .taken)
  | .sounding | .sustained | .releasing =>
    if force then (cutVoice v .tuning s, .taken)
    else (modVoice v (fun x => { x with reserved := true }) s, .reserved)
  | .off | .tuning => (s, .skipped)

/-- A return order: a TUNING voice becomes OFF, or FREE and announced as returned to service. -/
def returnVoice (v : Fin 8) (toOff : Bool) (s : State) : State :=
  if (s.voice v).state = .tuning then
    if toOff then modVoice v (fun x => { x with state := .off, enabled := false }) s
    else voiceReturned v (modVoice v (fun x => { x with state := .free }) s)
  else s

/-- The release of all, given at TUNE_ABORT: every TUNING voice becomes FREE and is announced, ascending, and every
reserved mark is cleared. -/
def releaseAll (s : State) : State :=
  let s1 := { s with table := { s.table with voices := tab fun v => { s.table.voices[v] with reserved := false } } }
  (List.finRange 8).foldl (fun s v => returnVoice v false s) s1

/-- A voice still reserved is cut to TUNING and announced as taken (R14, R155). -/
def cutReserved (v : Fin 8) (s : State) : State :=
  if (s.voice v).reserved then voiceTaken v (cutVoice v .tuning s) else s

/-- The cut of ALL_OFF: a reserved voice becomes TUNING and is announced as taken, any other becomes FREE (R14, R40). -/
def cutByAllOff (v : Fin 8) (s : State) : State :=
  let x := s.voice v
  if x.state = .sounding ∨ x.state = .sustained ∨ x.state = .releasing then
    if x.reserved then voiceTaken v (removeVoice v .tuning s) else removeVoice v .free s
  else s

/-! ### POLY (R24, R31, R32) -/

/-- The voices SOUNDING a key, ascending. -/
def voicesSounding (key : Nat) (s : State) : List (Fin 8) :=
  (List.finRange 8).filter fun v => (s.voice v).state = .sounding && (s.voice v).key = some key

/-- The key list takes a new entry for a key: an old entry of it is removed, or the oldest evicted from a full list (R20). -/
def enterKey (key vel : Nat) (s : State) : State :=
  let s1 :=
    if (entryOf key s).isSome then removeEntry key s
    else if 32 ≤ s.assigner.keyList.length then
      match s.assigner.keyList with
      | e :: rest => leaveWaiting e.key { s with assigner := { s.assigner with keyList := rest } }
      | [] => s
    else s
  let s2 := leaveWaiting key s1
  { s2 with assigner := { s2.assigner with keyList := s2.assigner.keyList ++ [{ key, velocity := vel, voices := [] }] } }

/-- Voice `v` placed before the first voice whose stack position is not below its own. -/
def insertByPos (s : State) (v : Fin 8) : List (Fin 8) → List (Fin 8)
  | [] => [v]
  | w :: ws => if (s.voice v).stackPos ≤ (s.voice w).stackPos then v :: w :: ws else w :: insertByPos s v ws

/-- The voices in ascending order of their stack positions, equal positions ascending in index (log entry 1). -/
def byStackPos (s : State) : List (Fin 8) → List (Fin 8)
  | [] => []
  | v :: vs => insertByPos s v (byStackPos s vs)

/-- The note starts of a key's own voices, given in turn with stack positions from `pos` on (stage 1 of R24). -/
def restartOwn (key vel : Nat) (held : List Nat) : List (Fin 8) → Nat → State → State
  | [], _, s => s
  | v :: vs, pos, s =>
    restartOwn key vel held vs (pos + 1) (joinEntry key v (noteStart v key vel pos (voiceJump v held key s) s))

/-- NOTE_ON in POLY (R24). Reserved own voices get their key releases in ascending index (DESIGN CHOICE, log entry 38: R24 gives
no order). -/
def polyNoteOn (key vel : Nat) (s : State) : State :=
  let held := heldKeys s
  let own := voicesSounding key s
  let s1 := enterKey key vel s
  let s2 := (own.filter fun v => (s.voice v).reserved).foldl (fun s v => keyRelease v s) s1
  let kept := byStackPos s (own.filter fun v => !(s.voice v).reserved)
  let s3 := restartOwn key vel held kept 0 s2
  let s4 := chain key vel held s3.assigner.setup.keepTop (joinEntry key) (s3.assigner.setup.stack - kept.length) kept.length s3
  match entryOf key s4 with
  | some e => if e.voices.isEmpty then joinWaiting key s4 else s4
  | none => s4

/-- NOTE_OFF in POLY (R31, R32). -/
def polyNoteOff (key : Nat) (s : State) : State :=
  let held := heldKeys s
  let s1 := leaveWaiting key (removeEntry key s)
  let released := voicesSounding key s1
  let s2 := released.foldl (fun s v => keyRelease v s) s1
  if s.assigner.setup.returning && !s.assigner.pedalDown then
    match released.find? fun v => !(s.voice v).reserved with
    | some v => serveWaiting v held s2
    | none => s2
  else s2

/-! ### MONO (R35 to R37) -/

/-- The key the mono priority selects from the key list (R35). -/
def selectedKey (s : State) : Option Nat :=
  match s.assigner.setup.priority with
  | .last => (heldKeys s).getLast?
  | .low => (heldKeys s).min?
  | .high => (heldKeys s).max?

def setMonoKey (key : Option Nat) (s : State) : State := { s with assigner := { s.assigner with monoKey := key } }

/-- A new mono stack is formed for `key` by the chain, keep top disregarded (R35). -/
def formStack (key : Nat) (held : List Nat) (s : State) : State :=
  let s1 := setMonoKey (some key) s
  chain key (entryVelocity key s1) held false joinStack s1.assigner.setup.stack 0 s1

/-- The reserved voices of the stack are given a key release and leave it (R36), in the order in which they joined the stack (DESIGN
CHOICE, log entry 37: R36 gives no order). -/
def shedReserved (s : State) : State :=
  let stack := s.assigner.monoStack
  let s1 := (stack.filter fun v => (s.voice v).reserved).foldl (fun s v => keyRelease v s) s
  { s1 with assigner := { s1.assigner with monoStack := stack.filter fun v => !(s.voice v).reserved } }

/-- Every stack voice receives a note start for `key`, its stack position kept (R36), in the order in which the voices joined the
stack (DESIGN CHOICE, log entry 37: R36 gives no order). That the positions are kept at a NOTE_ON of the mono key itself as at a move
is the model's choice too (log entry 46: R36 gives them for the move alone). -/
def restartStack (key : Nat) (held : List Nat) (s : State) : State :=
  s.assigner.monoStack.foldl
    (fun s v => noteStart v key (entryVelocity key s) (s.voice v).stackPos (voiceJump v held key s) s) s

/-- Every stack voice receives a legato change to `key` (R36). -/
def legatoStack (key : Nat) (held : List Nat) (s : State) : State :=
  s.assigner.monoStack.foldl (fun s v => legatoChange v key (voiceJump v held key s) s) s

/-- The stack moves to `key` (R36). -/
def moveStack (key : Nat) (held : List Nat) (s : State) : State :=
  let s1 := shedReserved s
  setMonoKey (some key) (if s1.assigner.setup.retrigger then restartStack key held s1 else legatoStack key held s1)

/-- NOTE_ON in MONO (R35, R36). -/
def monoNoteOn (key vel : Nat) (s : State) : State :=
  let held := heldKeys s
  let s1 := enterKey key vel s
  match selectedKey s1 with
  | none => s1
  | some c =>
    if s1.assigner.monoStack.isEmpty then formStack c held s1
    else if s1.assigner.monoKey ≠ some c then moveStack c held s1
    else if c = key then restartStack key held (shedReserved s1)
    else s1

/-- NOTE_OFF in MONO (R35 to R37). A key that is not listed releases the voices SOUNDING it, as in R31. The first NOTE_OFF after a
change of mono priority moves the stack to the key now selected even where the key released is not the mono key (R35, R36, R44;
DESIGN CHOICE, log entry 42: R37 says that such a NOTE_OFF changes no voice). -/
def monoNoteOff (key : Nat) (s : State) : State :=
  let held := heldKeys s
  let listed := (entryOf key s).isSome
  let s1 :=
    if listed then leaveWaiting key (removeEntry key s) else (voicesSounding key s).foldl (fun s v => keyRelease v s) s
  match selectedKey s1 with
  | none =>
    if listed then
      let s2 := ((List.finRange 8).filter fun v => s1.assigner.monoStack.contains v).foldl (fun s v => keyRelease v s) s1
      setMonoKey none { s2 with assigner := { s2.assigner with monoStack := [] } }
    else s1
  | some c =>
    if s1.assigner.monoKey = some c then s1
    else if s1.assigner.monoStack.isEmpty then formStack c held s1
    else moveStack c held s1

/-! ### Reassignment and pedal (R38, R43) -/

/-- Every voice in the states `p` goes to RELEASING, ascending. -/
def releaseWhere (p : Voice → Bool) (s : State) : State :=
  ((List.finRange 8).filter fun v => p (s.voice v)).foldl (fun s v => toReleasing v s) s

/-- One held key of a POLY reassignment is voiced by the chain (step 3 of R43). A key left without a voice joins the waiting list
at its own voicing, so the key voiced last is the newest there (DESIGN CHOICE, log entry 39: R43 gives no order). -/
def revoice (held : List Nat) (s : State) (e : KeyEntry) : State :=
  let s1 := chain e.key e.velocity held s.assigner.setup.keepTop (joinEntry e.key) s.assigner.setup.stack 0 s
  match entryOf e.key s1 with
  | some e' => if e'.voices.isEmpty && s1.assigner.setup.returning then joinWaiting e.key s1 else s1
  | none => s1

/-- A reassignment, the new setup being in effect (R43). -/
def reassign (s : State) : State :=
  let held := heldKeys s
  let s1 := releaseWhere Voice.playing s
  let s2 := { s1 with assigner := { s1.assigner with
    monoKey := none
    monoStack := []
    waiting := []
    keyList := s1.assigner.keyList.map (fun e : KeyEntry => { e with voices := [] }) } }
  match s2.assigner.setup.mode with
  | .mono =>
    match selectedKey s2 with
    | none => s2
    | some c => formStack c held s2
  | .poly => s2.assigner.keyList.reverse.foldl (revoice held) s2

/-- A voice setup becomes the one in effect, with a reassignment when its mode or stack size differs (R41, R42). -/
def adoptSetup (new : VoiceSetup) (s : State) : State :=
  let old := s.assigner.setup
  let s1 := { s with assigner := { s.assigner with setup := new } }
  if new.mode ≠ old.mode ∨ new.stack ≠ old.stack then reassign s1 else s1

/-- A pedal setting, from the link or from the panel (R38). -/
def setPedal (down : Bool) (s : State) : State :=
  let s1 := { s with assigner := { s.assigner with pedalDown := down } }
  if s.assigner.pedalDown && !down then releaseWhere (fun x => x.state = .sustained) s1 else s1

end Sys2Proof.Machine
end

