-- ==== Sys2Proof/Machine/Patches.lean ====
section
/-! DEFINITION. Patch Memory's operations: how each starts, runs through its phases and completes, the pending items, and
the applying of a recall (R129 to R141). -/

namespace Sys2Proof.Machine

/-! ### The record of the operation -/

def setMemory (m : Memory) (s : State) : State := { s with memory := m }

/-- The operation in flight becomes `op`. -/
def setOp (op : MemOp) (s : State) : State := { s with memory := { s.memory with op := some op } }

/-- The operation in flight and the write buffer become absent. -/
def endOp (s : State) : State := { s with memory := { s.memory with op := none, writeBuffer := none } }

/-- A fresh operation record. -/
def newOp (kind : OpKind) (target : Target) (origin : Origin) (phase : OpPhase) (timeLeft : Nat) : MemOp :=
  { kind, target, origin, phase, timeLeft, setting := false, image := [] }

/-- The slot an operation acts on; an area operation acts on none. -/
def MemOp.slot (op : MemOp) : Nat :=
  match op.target with
  | .slot n => n
  | _ => 0

/-- The blocks that mark an operation's target as valid: the tag block, the sixteen status blocks, or block 1887 (R132). -/
def markBlocks (op : MemOp) : List Nat :=
  match op.target with
  | .slot n => [14 * n]
  | .tuningArea => tuningBlocks.drop 32
  | .setupArea => [1887]
  | .wholeLoad => []

/-- The blocks an operation erases (R127, R132, R139). -/
def eraseUnit (op : MemOp) : List Nat :=
  match op.target with
  | .slot n => if op.kind = .protect then [14 * n] else slotBlocks n
  | .tuningArea => tuningBlocks
  | .setupArea => setupBlocks
  | .wholeLoad => []

/-- The record in the write buffer. -/
def bufferRecord (m : Memory) : BitVec 896 := (m.writeBuffer.map WriteBuffer.record).getD 0

/-- The blocks programmed and verified before the marking blocks, with their data (steps 4 and 5 of R132, R139). -/
def bodyProgram (op : MemOp) (m : Memory) : List Nat × List (BitVec 64) :=
  match op.target with
  | .slot n =>
    if op.kind = .protect then ([14 * n], op.image.map withoutTag) else (slotBlocks n, recordBlocksUntagged (bufferRecord m))
  | .tuningArea => (tuningBlocks.take 32, op.image.take 32)
  | .setupArea => (setupBlocks.take 47, op.image.take 47)
  | .wholeLoad => ([], [])

/-- The data of the marking blocks (step 6 of R132). -/
def markData (op : MemOp) (m : Memory) : List (BitVec 64) :=
  match op.target with
  | .slot _ => if op.kind = .protect then op.image else [recordBlock (bufferRecord m) 0]
  | .tuningArea => op.image.drop 32
  | .setupArea => op.image.drop 47
  | .wholeLoad => []

/-- The times of the erase, program and verify phases in tenths of a millisecond (R131). -/
def phaseTimes (k : OpKind) : Nat × Nat × Nat :=
  match k with
  | .protect => (20, 20, 10)
  | .tuningSave => (150, 200, 50)
  | .setupSave => (150, 40, 10)
  | _ => (150, 80, 20)

/-! ### Starting the erase (steps 2 and 3 of R132) -/

/-- The supply reading is at its threshold or above (step 2 of R132). -/
def supplyGood (s : State) : Bool := decide (Config.supplyThreshold ≤ s.scanner.supply)

/-- The erase begins: from its start the marking blocks are erased, so the target reads EMPTY (step 3 of R132). -/
def beginErase (op : MemOp) (s : State) : State :=
  setOp { op with phase := .erase, timeLeft := (phaseTimes op.kind).1 }
    { s with memory := { s.memory with store := eraseBlocks (markBlocks op) s.memory.store } }

/-! ### The tune job's save closes the job (R141, R165) -/

/-- The Tune Unit takes the outcome of its save: TUNE_DONE is queued and the job ends. -/
def closeJobSave (outcome : Code) (s : State) : State :=
  match s.tune.job with
  | none => s
  | some j =>
    offer (decide (j.origin = .link)) (.tuneDone .complete j.okCount j.failedCount outcome)
      { s with tune := { s.tune with job := none } }

/-- The completion of a tuning save up to its report or its hand-over to the Tune Unit, at which the pending tune save
becomes no (R141; log entry 15). -/
def settleTuningSave (op : MemOp) (outcome : Code) (s : State) : State :=
  let s1 := endOp s
  if op.origin = .tune then closeJobSave outcome { s1 with memory := { s1.memory with pendingTune := false } }
  else offer (decide (op.origin = .link)) (.storeDone .tuningArea outcome) s1

/-- A tuning save starts and takes the table as it stands; with the supply low it ends at once and leaves the area untouched
(R132, R141; DESIGN CHOICE, log entry 35: R165 has a failed save leave an area that reads EMPTY or CORRUPT). -/
def beginTuningSave (origin : Origin) (s : State) : State :=
  let op := { newOp .tuningSave .tuningArea origin .erase 0 with image := tuningImage s.tune.table }
  if supplyGood s then beginErase op s else settleTuningSave op .supplyLow s

/-! ### Panel operations (R116, R140) -/

/-- The slot a step recall examines first (R140). -/
def firstExamined (upward : Bool) (current : Option Nat) : Nat :=
  match current with
  | none => 0
  | some c => if upward then (c + 1) % 128 else (c + 127) % 128

/-- The next slot a step recall examines. -/
def nextExamined (upward : Bool) (slot : Nat) : Nat := if upward then (slot + 1) % 128 else (slot + 127) % 128

def beginStep (upward : Bool) (s : State) : State :=
  let first := firstExamined upward s.params.currentSlot
  setOp (newOp .stepRecall (.slot first) .panel (.search upward first 0) 1) s

/-- A panel operation starts; its slot is settled now (R140). -/
def beginPanelOp (p : PanelOp) (s : State) : State :=
  match p with
  | .recall slot => setOp (newOp .recall (.slot slot) .panel .read 10) s
  | .next => beginStep true s
  | .prev => beginStep false s
  | .storeCurrent =>
    match s.params.currentSlot with
    | none => s
    | some slot => setOp (newOp .store (.slot slot) .panel .heading 1) s

/-- The pending panel operation starts, if there is one. -/
def startPendingPanel (rest : List PendingKind) (s : State) : State :=
  let s1 := { s with memory := { s.memory with pendingPanel := none, pendingOrder := rest } }
  match s.memory.pendingPanel with
  | some p => beginPanelOp p s1
  | none => s1

/-- At a completion the item that became pending first starts (R131). A tune save that ends at once for want of supply
lets the panel operation behind it start. -/
def startPending (s : State) : State :=
  match s.memory.pendingOrder with
  | [] => s
  | .panelOp :: rest => startPendingPanel rest s
  | .tuneSave :: rest =>
    let s1 := beginTuningSave .tune { s with memory := { s.memory with pendingOrder := rest } }
    if s1.busy then s1
    else
      match rest with
      | .panelOp :: rest' => startPendingPanel rest' s1
      | _ => s1

/-- A panel operation handed to Patch Memory: it starts at once, or becomes the pending one in the place of the one it
replaces (R116, R131, R140). -/
def handPanelOp (p : PanelOp) (s : State) : State :=
  if s.busy then
    { s with memory := { s.memory with
        pendingPanel := some p
        pendingOrder := if s.memory.pendingPanel.isSome then s.memory.pendingOrder else s.memory.pendingOrder ++ [.panelOp] } }
  else beginPanelOp p s

/-- The Tune Unit asks for its save: at once, or pending (R141). -/
def requestTuneSave (s : State) : State :=
  if s.busy then
    { s with memory := { s.memory with pendingTune := true, pendingOrder := s.memory.pendingOrder ++ [.tuneSave] } }
  else beginTuningSave .tune s

/-! ### Completions -/

/-- The completion of a store, patch write, protect or setup save (R131, R136, R137, R139, R142): a store that ends DONE
sets the current slot and clears the edited flag (R87), STORE_DONE is queued, and a pending item starts. -/
def closeStore (op : MemOp) (outcome : Code) (s : State) : State :=
  let s1 := endOp s
  let s2 :=
    if op.kind = .store ∧ outcome = .done then { s1 with params := { s1.params with currentSlot := some op.slot, edited := false } }
    else s1
  startPending (offer (decide (op.origin = .link)) (.storeDone op.target outcome) s2)

/-- The completion of a tuning save (R141). -/
def closeTuningSave (op : MemOp) (outcome : Code) (s : State) : State := startPending (settleTuningSave op outcome s)

/-- The supply check, then the erase (steps 2 and 3 of R132). -/
def checkSupply (op : MemOp) (s : State) : State := if supplyGood s then beginErase op s else closeStore op .supplyLow s

/-- The protect check reads a slot's tag block: VALID with the protected flag set (step 1 of R132). -/
def tagProtects (slot : Nat) (m : Memory) : Bool × Memory :=
  let r := readBlocks [14 * slot] m
  (r.1.data.any fun d => tagValid d && tagProtected d, r.2)

/-- A STORE or WRITE_PATCH starts: protect check, supply check, erase (R132, R136, R137). -/
def beginStore (kind : OpKind) (slot : Nat) (record : BitVec 896) (s : State) : State :=
  let op := newOp kind (.slot slot) .link .erase 0
  let r := tagProtects slot { s.memory with op := some op, writeBuffer := some { slot, record } }
  let s1 := setMemory r.2 s
  if r.1 then closeStore op .refused s1 else checkSupply op s1

/-- A slot's tag block and the setup area's block 1887 read back as they must: a tag that reads VALID (step 6 of R132), a block
1887 whose data is what was programmed, corrected or not (DESIGN CHOICE, log entry 18: R132 says only that it is checked). -/
def marksRead (op : MemOp) (expected got : List (BitVec 64)) : Bool :=
  match op.target with
  | .slot _ => got.any tagValid
  | _ => got = expected

/-- The marking blocks `bs` programmed in turn with `ds` and each verified bit for bit, data and check bits (R132, R141). The first
that does not match stands erased and ends it, so that a failed save leaves an area that reads EMPTY (log entry 34). Gives
whether every block matched. -/
def markVerified (errs : List BlockBits) : List Nat → List (BitVec 64) → Memory → Bool × Memory
  | [], _, m => (true, m)
  | _ :: _, [], m => (false, m)
  | b :: bs, d :: ds, m =>
    let m1 := { m with store := programBlock b d (sparseRead 0 errs b) m.store }
    let m2 := countFinding (checkBlock m1.store b).1 b m1
    if blockErrors m1.store b = 0 then markVerified errs bs ds m2 else (false, { m2 with store := eraseBlock b m2.store })

/-- The marking blocks programmed and read back in one piece: a slot's tag block, or block 1887 (step 6 of R132). -/
def markWhole (op : MemOp) (mark : MarkProgram) (data : List (BitVec 64)) (m : Memory) : Bool × Memory :=
  let store := if mark.took then programBlocks mark.errors (markBlocks op) data m.store else m.store
  let r := readBlocks (markBlocks op) { m with store := store }
  (!r.1.double && marksRead op data r.1.data, r.2)

/-- The status blocks that did not take their contents are verified: the first read shows it and ends the verify, counted like any
other read (R128, R141; log entry 20). -/
def markMissed (op : MemOp) (m : Memory) : Bool × Memory := (false, (readBlocks ((markBlocks op).take 1) m).2)

/-- Step 6 of R132: the marking blocks take their contents `data` and are checked. Gives whether they mark the target valid. -/
def markTarget (op : MemOp) (mark : MarkProgram) (data : List (BitVec 64)) (m : Memory) : Bool × Memory :=
  match op.target with
  | .tuningArea => if mark.took then markVerified mark.errors (markBlocks op) data m else markMissed op m
  | _ => markWhole op mark data m

/-- The verify and the marking of a programming operation, and its outcome (steps 5 and 6 of R132). A mismatch in any block of the
body leaves the marking blocks erased, so that the slot reads EMPTY even where its tag block is the one that does not match (R132,
R139; DESIGN CHOICE, log entry 45: the manual says what the slot then reads as, not what its tag block holds). -/
def verifyAndMark (op : MemOp) (mark : MarkProgram) (m : Memory) : Code × Memory :=
  let v := verifyBlocks (bodyProgram op m).1 m
  if v.1 then
    let r := markTarget op mark (markData op m) v.2
    (if r.1 then .done else .verifyFailed, r.2)
  else (.verifyFailed, { v.2 with store := eraseBlocks (markBlocks op) v.2.store })

/-- The end of the verify phase of an operation of kind `k`: its outcome is handed to `close`. -/
def endVerify (k : OpKind) (mark : MarkProgram) (close : MemOp → Code → State → State) (s : State) : State :=
  match s.memory.op with
  | some op =>
    if op.kind = k ∧ op.phase = .verify then
      let r := verifyAndMark op mark s.memory
      transmit (close op r.1 (setMemory r.2 s))
    else s
  | none => s

/-- A recalled record is checked and, when in range, handed to the Note Assigner, the Parameter Table and, through it,
the Knob Scanner, in this order (R135). Gives whether it was in range. -/
def applyRecall (record : BitVec 896) (slot : Nat) (startUp : Bool) (s : State) : Bool × State :=
  match recordSetup record with
  | some setup =>
    if recordMorphTime record ≤ 2000 then
      (true, recallToTable (recordValue record) (recordMorphTime record) slot startUp (adoptSetup setup s))
    else (false, s)
  | none => (false, s)

/-- The record a DONE slot read delivers. -/
def SlotRead.record (r : SlotRead) : BitVec 896 := BitVec.ofNat 896 (recordOfBlocks r.data)

/-- The slot read of a recall is settled: the outcome of the recall and the state with the patch applied (R134, R135). -/
def settleRecall (slot : Nat) (startUp : Bool) (s : State) : Code × Nat × State :=
  let r := readSlot slot s.memory
  let s1 := setMemory r.2 s
  if r.1.outcome = .done then
    let a := applyRecall r.1.record slot startUp s1
    (if a.1 then .done else .corrupt, r.1.sec, a.2)
  else (r.1.outcome, r.1.sec, s1)

/-- The completion of a recall or step recall: RECALL_DONE after the hand-offs, then a pending item starts (R131, R134). -/
def closeRecall (op : MemOp) (slot : Nat) (outcome : Code) (sec : Nat) (s : State) : State :=
  startPending (offer (decide (op.origin = .link)) (.recallDone slot outcome sec) (endOp s))

/-- The completion of a patch read or patch information: PATCH_DATA, then a pending item starts (R138). -/
def closePatchData (op : MemOp) (info : Bool) (outcome : Code) (data : List Byte) (s : State) : State :=
  startPending (offer (decide (op.origin = .link)) (.patchData op.slot info outcome data) (endOp s))

/-! ### An operation cut short (R133) -/

/-- The operation is in a phase that has begun to change the store. -/
def programming (op : MemOp) : Bool := op.phase = .erase || op.phase = .program || op.phase = .verify

/-- What a programming operation cut short leaves: marking blocks that stand erased or, with `half`, one of them with two bits in
error (R133). Where the cut falls behind the body's programming the rest of a tag block, and its bits in error, are erased with it
(DESIGN CHOICE, log entry 47: R133 says only what the slot then reads as). -/
def cutMarks (op : MemOp) (half : Bool) (st : Store) : Store :=
  let st1 := eraseBlocks (markBlocks op) st
  if half then
    match markBlocks op with
    | b :: _ => { st1 with errors := sparseWrite 0 st1.errors b 3 }
    | [] => st1
  else st1

/-- The store as an operation ended at once by a reset or a power loss leaves it (R133). -/
def cutStore (half : Bool) (m : Memory) : Store :=
  match m.op with
  | some op => if programming op then cutMarks op half m.store else m.store
  | none => m.store

end Sys2Proof.Machine
end

