-- ==== Sys2Proof/Machine/PatchPhases.lean ====
section
/-! DEFINITION. The phase ends of Patch Memory's operations and of the start-up load (R131 to R145). Each acts on the
operation in flight when it is in the phase that the event ends, and otherwise changes nothing (log entry 14). -/

namespace Sys2Proof.Machine

/-- Run `f` on the operation in flight when `p` holds of it, then let the transmitter begin a frame if it is free. -/
def onOperation (p : MemOp → Bool) (f : MemOp → State → State) (s : State) : State :=
  match s.memory.op with
  | some op => if p op then transmit (f op s) else s
  | none => s

/-- The operation is searching for a VALID slot. -/
def searching (op : MemOp) : Bool :=
  match op.phase with
  | .search _ _ _ => true
  | _ => false

/-- The start-up load is in its tuning area. -/
def loadingTuning (op : MemOp) : Bool :=
  match op.phase with
  | .loadTuning _ => true
  | _ => false

/-- The start-up load is in the power-on slot. -/
def loadingSlot (op : MemOp) : Bool :=
  match op.phase with
  | .loadSlot _ _ => true
  | _ => false

/-! ### Recalls (R134, R140) -/

/-- One slot of a step recall's search has been examined (R140). -/
def examineTag (op : MemOp) (s : State) : State :=
  match op.phase with
  | .search upward first examined =>
    let r := readBlocks [14 * op.slot] s.memory
    let s1 := setMemory r.2 s
    if r.1.data.any tagValid then setOp { op with phase := .read, timeLeft := 10 } s1
    else if 127 ≤ examined then
      closeRecall op first .empty (Config.emptySearchSec first r.2.secCount r.2.store.errors).toNat s1
    else setOp { op with target := .slot (nextExamined upward op.slot), phase := .search upward first (examined + 1), timeLeft := 1 } s1
  | _ => s

/-- The read of a recall or of the slot a step recall has found ends (R134, R135). -/
def finishRecall (op : MemOp) (s : State) : State :=
  let r := settleRecall op.slot false s
  closeRecall op op.slot r.1 r.2.1 r.2.2

/-- TAG_EXAMINE_COMPLETE (R140). -/
def execTagExamineComplete (s : State) : Host.Outcome State Fault Refusal :=
  .next (whenRunning (onOperation searching examineTag) s)

/-- RECALL_COMPLETE (R134). -/
def execRecallComplete (s : State) : Host.Outcome State Fault Refusal :=
  .next (whenRunning (onOperation
    (fun op => decide ((op.kind = .recall ∨ op.kind = .stepRecall) ∧ op.phase = .read)) finishRecall) s)

/-! ### The heading reads of PROTECT and STORE_CURRENT (R139, R140) -/

/-- A tag block's data with its protected flag set to `on`. -/
def withProtected (on : Bool) (d : BitVec 64) : BitVec 64 := if on then d ||| 0x80 else d &&& ~~~0x80

/-- The heading read of a PROTECT ends (R139). -/
def protectHeading (op : MemOp) (s : State) : State :=
  let r := readHeading op.slot s.memory
  let s1 := setMemory r.2 s
  match r.1.data with
  | d :: _ =>
    if tagProtected d = op.setting then closeStore op .done s1
    else checkSupply { op with image := [withProtected op.setting d] } s1
  | [] => closeStore op r.1.outcome s1

/-- The record a STORE_CURRENT programs is put in the write buffer and the store runs on from the supply check (R140). -/
def fillAndCheck (op : MemOp) (name : List Nat) (s : State) : State :=
  checkSupply op { s with memory := { s.memory with writeBuffer := some { slot := op.slot, record := liveRecord false name s } } }

/-- The heading read of a STORE_CURRENT ends (R140): a protected slot refuses, a slot without a sound heading gets twelve
spaces for a name. -/
def storeHeading (op : MemOp) (s : State) : State :=
  let r := readHeading op.slot s.memory
  let s1 := setMemory r.2 s
  match r.1.data with
  | d :: _ => if tagProtected d then closeStore op .refused s1 else fillAndCheck op (recordName r.1.record) s1
  | [] => fillAndCheck op (List.replicate 12 0x20) s1

/-- HEADING_READ_COMPLETE (R139, R140). -/
def execHeadingReadComplete (s : State) : Host.Outcome State Fault Refusal :=
  .next (whenRunning (onOperation (fun op => decide (op.phase = .heading))
    (fun op s => if op.kind = .protect then protectHeading op s else storeHeading op s)) s)

/-! ### Programming (R132) -/

/-- The erase phase ends: the erase unit is erased and the program phase begins (step 3 of R132). -/
def finishErase (op : MemOp) (s : State) : State :=
  setOp { op with phase := .program, timeLeft := (phaseTimes op.kind).2.1 }
    { s with memory := { s.memory with store := eraseBlocks (eraseUnit op) s.memory.store } }

/-- The program phase ends: the body blocks hold their data and the verify phase begins (step 4 of R132). -/
def finishProgram (errs : List BlockBits) (op : MemOp) (s : State) : State :=
  let body := bodyProgram op s.memory
  setOp { op with phase := .verify, timeLeft := (phaseTimes op.kind).2.2 }
    { s with memory := { s.memory with store := programBlocks errs body.1 body.2 s.memory.store } }

/-- ERASE_COMPLETE (R132). -/
def execEraseComplete (s : State) : Host.Outcome State Fault Refusal :=
  .next (whenRunning (onOperation (fun op => decide (op.phase = .erase)) finishErase) s)

/-- PROGRAM_COMPLETE (R132). -/
def execProgramComplete (errs : List BlockBits) (s : State) : Host.Outcome State Fault Refusal :=
  .next (whenRunning (onOperation (fun op => decide (op.phase = .program)) (finishProgram errs)) s)

/-- STORE_COMPLETE (R136). -/
def execStoreComplete (mark : MarkProgram) (s : State) : Host.Outcome State Fault Refusal :=
  .next (whenRunning (endVerify .store mark closeStore) s)

/-- PATCH_WRITE_COMPLETE (R137). -/
def execPatchWriteComplete (mark : MarkProgram) (s : State) : Host.Outcome State Fault Refusal :=
  .next (whenRunning (endVerify .patchWrite mark closeStore) s)

/-- PROTECT_COMPLETE (R139). -/
def execProtectComplete (mark : MarkProgram) (s : State) : Host.Outcome State Fault Refusal :=
  .next (whenRunning (endVerify .protect mark closeStore) s)

/-- TUNING_SAVE_COMPLETE (R141). -/
def execTuningSaveComplete (mark : MarkProgram) (s : State) : Host.Outcome State Fault Refusal :=
  .next (whenRunning (endVerify .tuningSave mark closeTuningSave) s)

/-- SETUP_SAVE_COMPLETE (R142). -/
def execSetupSaveComplete (mark : MarkProgram) (s : State) : Host.Outcome State Fault Refusal :=
  .next (whenRunning (endVerify .setupSave mark closeStore) s)

/-! ### Patch reads (R138) -/

/-- A patch read ends (R138). -/
def finishPatchRead (op : MemOp) (s : State) : State :=
  let r := readSlot op.slot s.memory
  closePatchData op false r.1.outcome (if r.1.outcome = .done then recordBytes r.1.record else []) (setMemory r.2 s)

/-- The name and the protected flag of a record as PATCH_DATA carries them (11.3). -/
def infoBytes (r : BitVec 896) : List Byte := (recordName r).map byteOf ++ [byteOf (recordField r 7 1)]

/-- A patch information read ends (R138). -/
def finishPatchInfo (op : MemOp) (s : State) : State :=
  let r := readHeading op.slot s.memory
  closePatchData op true r.1.outcome (if r.1.outcome = .done then infoBytes r.1.record else []) (setMemory r.2 s)

/-- PATCH_READ_COMPLETE (R138). -/
def execPatchReadComplete (s : State) : Host.Outcome State Fault Refusal :=
  .next (whenRunning (onOperation (fun op => decide (op.kind = .patchRead)) finishPatchRead) s)

/-- PATCH_INFO_COMPLETE (R138). -/
def execPatchInfoComplete (s : State) : Host.Outcome State Fault Refusal :=
  .next (whenRunning (onOperation (fun op => decide (op.kind = .patchInfo)) finishPatchInfo) s)

/-! ### The start-up load (R144, R145) -/

/-- The outcome of an area load: the first of CORRUPT, EMPTY, CORRECTED and OK that applies (R144). -/
def areaOutcome (double absent : Bool) (sec : Nat) : LoadOutcome :=
  if double then .corrupt else if absent then .empty else if 0 < sec then .corrected else .ok

/-- The load delivers its contents (R144). -/
def LoadOutcome.good (o : LoadOutcome) : Bool := o = .ok || o = .corrected

/-- The setup area's load ends (step 1 of R144). -/
def finishSetupLoad (op : MemOp) (s : State) : State :=
  let r := readBlocks setupBlocks s.memory
  let img := blocksToBytes r.1.data
  let o := areaOutcome r.1.double (img.drop 376 ≠ setupTag) r.1.sec
  let s1 := setOp { op with phase := .loadTuning o, timeLeft := 15 } (setMemory r.2 s)
  if o.good then applySetupImage img s1 else s1

/-- The tuning area's load ends (step 2 of R144). -/
def finishTuningLoad (op : MemOp) (s : State) : State :=
  match op.phase with
  | .loadTuning setup =>
    let r := readBlocks tuningBlocks s.memory
    let img := blocksToBytes r.1.data
    let o := areaOutcome r.1.double (!tuningImageValid img) r.1.sec
    let s1 := setOp { op with phase := .loadSlot setup o, timeLeft := 10 } (setMemory r.2 s)
    if o.good then { s1 with tune := { s1.tune with table := tableOfImage img } } else s1
  | _ => s

/-- The load outcome of the power-on slot's recall (step 3 of R144). -/
def slotOutcome (o : Code) (sec : Nat) : LoadOutcome :=
  match o with
  | .done => if sec = 0 then .ok else .corrected
  | .empty => .empty
  | _ => .corrupt

/-- The power-on slot's load ends: the start-up state becomes READY and READY is queued (step 3 of R144, R145). -/
def finishSlotLoad (op : MemOp) (s : State) : State :=
  match op.phase with
  | .loadSlot setup tuning =>
    let r := settleRecall s.memory.powerOnSlot true s
    let s1 := r.2.2
    offer true (.ready setup tuning (slotOutcome r.1 r.2.1)) { s1 with memory := { s1.memory with op := none, ready := true } }
  | _ => s

/-- SETUP_LOAD_COMPLETE (R144). -/
def execSetupLoadComplete (s : State) : Host.Outcome State Fault Refusal :=
  .next (whenRunning (onOperation (fun op => decide (op.phase = .loadSetup)) finishSetupLoad) s)

/-- TUNING_LOAD_COMPLETE (R144). -/
def execTuningLoadComplete (s : State) : Host.Outcome State Fault Refusal :=
  .next (whenRunning (onOperation loadingTuning finishTuningLoad) s)

/-- SLOT_LOAD_COMPLETE (R145). -/
def execSlotLoadComplete (s : State) : Host.Outcome State Fault Refusal :=
  .next (whenRunning (onOperation loadingSlot finishSlotLoad) s)

end Sys2Proof.Machine
end

