-- ==== Sys2Proof/Machine/Frames.lean ====
section
/-! DEFINITION. The frames of the host: the kinds with their body lengths, the command a body spells, and the kind and body
of each command (11.3). -/

namespace Sys2Proof.Machine

/-- The body length of a request or play message; `none` for a kind that names neither (11.3). -/
def bodyLength (kind : Byte) : Option Nat :=
  match kind.toNat with
  | 0x10 => some 2
  | 0x11 => some 2
  | 0x12 => some 1
  | 0x13 => some 2
  | 0x14 => some 1
  | 0x20 => some 2
  | 0x21 => some 1
  | 0x22 => some 12
  | 0x28 => some 3
  | 0x29 => some 1
  | 0x2A => some 2
  | 0x30 => some 2
  | 0x31 => some 1
  | 0x32 => some 4
  | 0x33 => some 1
  | 0x38 => some 4
  | 0x39 => some 1
  | 0x3A => some 28
  | 0x3B => some 24
  | 0x3C => some 2
  | 0x3D => some 4
  | 0x3E => some 1
  | 0x3F => some 1
  | 0x40 => some 1
  | 0x41 => some 14
  | 0x42 => some 113
  | 0x43 => some 1
  | 0x44 => some 1
  | 0x45 => some 2
  | 0x46 => some 0
  | 0x47 => some 1
  | 0x48 => some 0
  | 0x50 => some 5
  | 0x51 => some 0
  | 0x52 => some 4
  | 0x53 => some 8
  | 0x54 => some 1
  | 0x55 => some 0
  | 0x58 => some 0
  | 0x59 => some 0
  | 0x5A => some 11
  | 0x5B => some 0
  | _ => none

/-- A kind of a play message (R23, 11.3). -/
def isPlay (kind : Byte) : Bool := decide (0x10 ≤ kind.toNat) && decide (kind.toNat ≤ 0x14)

/-- Byte `i` of a body. -/
def byteAt (b : List Byte) (i : Nat) : Byte := b.getD i 0

/-- The number of `count` bytes at offset `i` of a body, least significant first, in `n` bits. -/
def fieldAt (n : Nat) (b : List Byte) (i count : Nat) : BitVec n := BitVec.ofNat n (numberLE ((b.drop i).take count))

/-- The command that a body of the right length spells (11.3). -/
def requestOf (kind : Byte) (b : List Byte) : Option Instr :=
  match kind.toNat with
  | 0x10 => some (.noteOn (byteAt b 0) (byteAt b 1))
  | 0x11 => some (.noteOff (byteAt b 0) (byteAt b 1))
  | 0x12 => some (.pedal (byteAt b 0))
  | 0x13 => some (.bend (fieldAt 16 b 0 2))
  | 0x14 => some (.allOff (byteAt b 0))
  | 0x20 => some (.voiceEnable (byteAt b 0) (byteAt b 1))
  | 0x21 => some (.getVoice (byteAt b 0))
  | 0x22 => some (.setVoiceSetup
      { mode := byteAt b 0, stack := byteAt b 1, assign := byteAt b 2, steal := byteAt b 3, keepTop := byteAt b 4,
        returning := byteAt b 5, priority := byteAt b 6, retrigger := byteAt b 7, glide := byteAt b 8,
        bendRange := byteAt b 9, gap := byteAt b 10, width := byteAt b 11 })
  | 0x28 => some (.setParam (byteAt b 0) (fieldAt 16 b 1 2))
  | 0x29 => some (.getParam (byteAt b 0))
  | 0x2A => some (.setMorphTime (fieldAt 16 b 0 2))
  | 0x30 => some (.mapKnob (byteAt b 0) (byteAt b 1))
  | 0x31 => some (.setPickupMode (byteAt b 0))
  | 0x32 => some (.setKnobScan (byteAt b 0) (byteAt b 1) (fieldAt 16 b 2 2))
  | 0x33 => some (.getKnob (byteAt b 0))
  | 0x38 => some (.setSwitch (byteAt b 0) (byteAt b 1) (byteAt b 2) (byteAt b 3))
  | 0x39 => some (.setDebounce (byteAt b 0))
  | 0x3A => some (.setGroup (byteAt b 0) (fieldAt 192 b 1 24) (byteAt b 25) (byteAt b 26) (byteAt b 27))
  | 0x3B => some (.setLamps (fieldAt 64 b 0 8) (fieldAt 128 b 8 16))
  | 0x3C => some (.setLampBinding (byteAt b 0) (byteAt b 1))
  | 0x3D => some (.setBlink (fieldAt 16 b 0 2) (fieldAt 16 b 2 2))
  | 0x3E => some (.getSwitch (byteAt b 0))
  | 0x3F => some (.getPanel (byteAt b 0))
  | 0x40 => some (.recall (byteAt b 0))
  | 0x41 => some (.store (byteAt b 0) (fieldAt 96 b 1 12) (byteAt b 13))
  | 0x42 => some (.writePatch (byteAt b 0) (fieldAt 896 b 1 112))
  | 0x43 => some (.readPatch (byteAt b 0))
  | 0x44 => some (.patchInfo (byteAt b 0))
  | 0x45 => some (.protect (byteAt b 0) (byteAt b 1))
  | 0x46 => some .saveSetup
  | 0x47 => some (.setPowerOnSlot (byteAt b 0))
  | 0x48 => some .memoryStatus
  | 0x50 => some (.tuneStart (byteAt b 0) (byteAt b 1) (byteAt b 2) (byteAt b 3) (byteAt b 4))
  | 0x51 => some .tuneAbort
  | 0x52 => some (.setReference (fieldAt 32 b 0 4))
  | 0x53 => some (.setTuneDefaults
      { scope := byteAt b 0, depth := byteAt b 1, force := byteAt b 2, save := byteAt b 3, disableFailed := byteAt b 4,
        settle := byteAt b 5, hysteresis := byteAt b 6, polarity := byteAt b 7 })
  | 0x54 => some (.getTuning (byteAt b 0))
  | 0x55 => some .saveTuning
  | 0x58 => some .linkStats
  | 0x59 => some .getStatus
  | 0x5A => some (.setReportMask (fieldAt 88 b 0 11))
  | 0x5B => some .restart
  | _ => none

/-- The kind and body of the frame that carries a command; `none` for a command that no frame carries (11.3). -/
def frameParts (i : Instr) : Option (Byte × List Byte) :=
  match i with
  | .noteOn key velocity => some (0x10, [key, velocity])
  | .noteOff key velocity => some (0x11, [key, velocity])
  | .pedal state => some (0x12, [state])
  | .bend value => some (0x13, bytesLE 2 value.toNat)
  | .allOff cut => some (0x14, [cut])
  | .voiceEnable voices direction => some (0x20, [voices, direction])
  | .getVoice voice => some (0x21, [voice])
  | .setVoiceSetup b =>
    some (0x22, [b.mode, b.stack, b.assign, b.steal, b.keepTop, b.returning, b.priority, b.retrigger, b.glide,
      b.bendRange, b.gap, b.width])
  | .setParam index value => some (0x28, index :: bytesLE 2 value.toNat)
  | .getParam index => some (0x29, [index])
  | .setMorphTime time => some (0x2A, bytesLE 2 time.toNat)
  | .mapKnob knob param => some (0x30, [knob, param])
  | .setPickupMode mode => some (0x31, [mode])
  | .setKnobScan banks offset deadband => some (0x32, banks :: offset :: bytesLE 2 deadband.toNat)
  | .getKnob knob => some (0x33, [knob])
  | .setSwitch switch spec action slot => some (0x38, [switch, spec, action, slot])
  | .setDebounce depth => some (0x39, [depth])
  | .setGroup group conditions latched action slot =>
    some (0x3A, group :: (bytesLE 24 conditions.toNat ++ [latched, action, slot]))
  | .setLamps mask states => some (0x3B, bytesLE 8 mask.toNat ++ bytesLE 16 states.toNat)
  | .setLampBinding lamp binding => some (0x3C, [lamp, binding])
  | .setBlink onTime offTime => some (0x3D, bytesLE 2 onTime.toNat ++ bytesLE 2 offTime.toNat)
  | .getSwitch switch => some (0x3E, [switch])
  | .getPanel part => some (0x3F, [part])
  | .recall slot => some (0x40, [slot])
  | .store slot name protect => some (0x41, slot :: (bytesLE 12 name.toNat ++ [protect]))
  | .writePatch slot record => some (0x42, slot :: bytesLE 112 record.toNat)
  | .readPatch slot => some (0x43, [slot])
  | .patchInfo slot => some (0x44, [slot])
  | .protect slot setting => some (0x45, [slot, setting])
  | .saveSetup => some (0x46, [])
  | .setPowerOnSlot slot => some (0x47, [slot])
  | .memoryStatus => some (0x48, [])
  | .tuneStart scope depth force save disableFailed => some (0x50, [scope, depth, force, save, disableFailed])
  | .tuneAbort => some (0x51, [])
  | .setReference value => some (0x52, bytesLE 4 value.toNat)
  | .setTuneDefaults b =>
    some (0x53, [b.scope, b.depth, b.force, b.save, b.disableFailed, b.settle, b.hysteresis, b.polarity])
  | .getTuning oscillator => some (0x54, [oscillator])
  | .saveTuning => some (0x55, [])
  | .linkStats => some (0x58, [])
  | .getStatus => some (0x59, [])
  | .setReportMask flags => some (0x5A, bytesLE 11 flags.toNat)
  | .restart => some (0x5B, [])
  | .powerOn => none
  | .resetAssert _ => none
  | .resetRelease => none
  | .tick _ => none
  | .morphEnd _ => none
  | .gapExpiry _ => none
  | .triggerExpiry _ => none
  | .releaseEnd _ => none
  | .blinkPhaseChange => none
  | .waitLimitExpiry => none
  | .settleExpiry _ => none
  | .firstEdgeTimeout _ => none
  | .countingTimeout _ _ => none
  | .tapEdge _ _ _ => none
  | .slotCompletion => none
  | .knobSettleEnd => none
  | .knobConversionComplete _ => none
  | .supplyConversionComplete _ => none
  | .rowStepEnd _ => none
  | .tagExamineComplete => none
  | .headingReadComplete => none
  | .eraseComplete => none
  | .programComplete _ => none
  | .recallComplete => none
  | .storeComplete _ => none
  | .patchWriteComplete _ => none
  | .patchReadComplete => none
  | .patchInfoComplete => none
  | .protectComplete _ => none
  | .tuningSaveComplete _ => none
  | .setupSaveComplete _ => none
  | .setupLoadComplete => none
  | .tuningLoadComplete => none
  | .slotLoadComplete => none
  | .receiveByte _ => none
  | .framingError => none
  | .lineBreak => none
  | .gapTimeout => none
  | .huntEnd => none
  | .badKind _ => none
  | .txFrameEnd => none
  | .powerLoss _ => none
  | .hstbRise => none

end Sys2Proof.Machine
end

