-- ==== Sys2Proof/Machine/Tuning.lean ====
section
/-! DEFINITION. The Tune Unit's jobs: starting, taking a round's voices, ending rounds and jobs (R151 to R156, R164 to
R166); its measurement events (R157 to R159); and its requests. -/

namespace Sys2Proof.Machine

/-! ### Rounds -/

/-- The enabled voices of a scope paired in ascending order (R153). -/
def pairVoices : List (Fin 8) → List (List (Fin 8))
  | a :: b :: rest => [a, b] :: pairVoices rest
  | [a] => [[a]]
  | [] => []

/-- The voices of a scope whose enable flag is set, ascending. -/
def enabledScope (scope : Byte) (s : State) : List (Fin 8) := (voicesOf scope).filter fun v => (s.voice v).enabled

/-- The take order for one round voice and its mark (R154): a voice taken at once starts its channels at this event. -/
def takeRoundVoice (force : Bool) (s : State) (v : Fin 8) : State :=
  let r := takeVoice v force s
  match r.2 with
  | .taken => voiceTaken v r.1
  | m => modJob (fun j => { j with marks := setMark v m j.marks }) r.1

/-- A round starts (R154, R155): its voices are taken in position order, and the wait limit starts if one is reserved. -/
def startRound (vs : List (Fin 8)) (force : Bool) (s : State) : State :=
  let s1 := modJob (fun j => { j with marks := vs.map fun v => (v, Mark.pending), wait := 0 }) s
  let s2 := vs.foldl (takeRoundVoice force) s1
  modJob (fun j => if j.waiting then { j with wait := 10000 } else j) s2

/-- The current round is over: no voice pending or reserved, and every channel that has started ended (R164). -/
def roundOver (s : State) : Bool :=
  match s.tune.job with
  | none => false
  | some j =>
    !j.saving && j.marks.all (fun m => m.2 = .taken || m.2 = .skipped) &&
      s.tune.channels.toList.all (fun ch => ch.phase = .idle || ch.phase = .ended)

/-- TUNE_PROGRESS for each oscillator whose channel started, ascending (step 1 of R164). -/
def reportProgress (j : Job) (s : State) : State :=
  ((List.finRange 16).filter fun o => (channelServing o s.tune).isSome).foldl
    (fun s o => offer (decide (j.origin = .link)) (.tuneProgress o s.tune.table[o]) s) s

/-- A point of an oscillator stands NO_SIGNAL. -/
def silentOscillator (o : Fin 16) (t : Vector (Vector Point 8) 16) : Bool := t[o].toList.any fun q => q.status = .noSignal

/-- The voice returns to OFF at its round's end (step 2 of R164). -/
def returnsOff (j : Job) (v : Fin 8) (s : State) : Bool :=
  j.disableFailed && (silentOscillator (oscA v) s.tune.table || silentOscillator (oscB v) s.tune.table)

/-- The return orders to the TAKEN voices, ascending (step 2 of R164). -/
def returnVoices (j : Job) (s : State) : State :=
  ((List.finRange 8).filter fun v => j.marks.any fun m => m.1 = v && m.2 = .taken).foldl
    (fun s v => returnVoice v (returnsOff j v s) s) s

/-- The overrides of both oscillators of each round voice are cleared and the channels become IDLE (step 3 of R164). -/
def clearRound (j : Job) (s : State) : State :=
  let s1 := (j.marks.map Prod.fst).foldl (fun s v => clearOverride (oscB v) (clearOverride (oscA v) s)) s
  { s1 with tune := { s1.tune with channels := tab fun _ => Channel.idle } }

/-- The job's last round has ended (R165): TUNE_DONE at once, or SAVING. -/
def finishJob (j : Job) (s : State) : State :=
  if j.save then requestTuneSave (modJob (fun j => { j with saving := true }) s)
  else
    offer (decide (j.origin = .link)) (.tuneDone .complete j.okCount j.failedCount .notSaved)
      { s with tune := { s.tune with job := none } }

/-- A round ends (R164), and the next one starts or the job goes to its end. -/
def endRound (j : Job) (s : State) : State :=
  let s1 := clearRound j (returnVoices j (reportProgress j s))
  match j.rounds[j.round + 1]? with
  | some vs => startRound vs j.force (modJob (fun j => { j with round := j.round + 1 }) s1)
  | none => finishJob j s1

/-- Rounds that are over end, one after another; a round whose voices are all SKIPPED ends at its start (R154, R164). -/
def settleRounds : Nat → State → State
  | 0, s => s
  | n + 1, s =>
    match s.tune.job with
    | some j => if roundOver s then settleRounds n (endRound j s) else s
    | none => s

/-! ### Starting a job (R151, R152) -/

/-- A job is created over the rounds `rounds` and its first round starts (R151, R153). -/
def createJob (origin : Origin) (scope : Byte) (depth : Depth) (force save disableFailed : Bool)
    (rounds : List (List (Fin 8))) (s : State) : State :=
  let d := s.tune.defaults
  let j : Job :=
    { origin, scope, depth, force, save, disableFailed, settle := d.settle, hysteresis := d.hysteresis,
      polarity := d.polarity, rounds, round := 0, marks := [], wait := 0, saving := false, okCount := 0, failedCount := 0 }
  settleRounds 4 (startRound (rounds.headD []) force { s with tune := { s.tune with job := some j } })

/-- A panel TUNE action (R152). -/
def panelTune (s : State) : State :=
  let d := s.tune.defaults
  if s.tune.job.isSome then s
  else
    match pairVoices (enabledScope d.scope s) with
    | [] => s
    | rounds => createJob .panel d.scope d.depth d.force d.save d.disableFailed rounds s

/-! ### Measurement events (R157 to R159) -/

/-- A threshold crossing of one tap (R157): an edge counts, in COUNTING it may end a round; any other crossing of a tap
whose gate is open only brings the period counter up to date. -/
def tapEdge (tap : Fin 16) (crossing : TapCrossing) (clocks : Nat) (s : State) : State :=
  match s.tune.job, channelServing tap s.tune with
  | some j, some c =>
    if isEdge j crossing then
      if s.tune.channels[c].phase = .counting then transmit (settleRounds 4 (channelEdge c clocks s))
      else channelEdge c clocks s
    else channelClocks c clocks s
  | _, _ => s

/-- TAP_EDGE (R157). -/
def execTapEdge (tap : Fin 16) (crossing : TapCrossing) (clocks : Nat) (s : State) : Host.Outcome State Fault Refusal :=
  .next (whenRunning (tapEdge tap crossing clocks) s)

/-- A channel's timer has run out in phase `p`. -/
def timedOut (c : Fin 4) (p : ChannelPhase) (s : State) : Bool :=
  decide (s.tune.channels[c].phase = p) && decide (s.tune.channels[c].timer = 0)

/-- SETTLE_EXPIRY (R158). -/
def execSettleExpiry (c : Fin 4) (s : State) : Host.Outcome State Fault Refusal :=
  .next (whenRunning (fun s =>
    if timedOut c .settle s then modChannel c (fun ch => { ch with phase := .firstEdge, timer := 200 }) s else s) s)

/-- FIRST_EDGE_TIMEOUT (R159, R162). -/
def execFirstEdgeTimeout (c : Fin 4) (s : State) : Host.Outcome State Fault Refusal :=
  .next (whenRunning (fun s =>
    if timedOut c .firstEdge s then transmit (settleRounds 4 (endSilentPoint c s)) else s) s)

/-- The gate closes at a counting timeout and the verdict is FLAT (R159). -/
def closeGate (c : Fin 4) (clocks : Nat) (s : State) : State :=
  let period := countClocks s.tune.channels[c].period clocks
  endTrial c period true (modChannel c (fun ch => { ch with period := period }) s)

/-- COUNTING_TIMEOUT (R159). -/
def execCountingTimeout (c : Fin 4) (clocks : Nat) (s : State) : Host.Outcome State Fault Refusal :=
  .next (whenRunning (fun s =>
    if timedOut c .counting s then transmit (settleRounds 4 (closeGate c clocks s)) else s) s)

/-- The wait limit has run out with a voice still reserved (R155). -/
def waitOver (s : State) : Bool :=
  match s.tune.job with
  | some j => !j.saving && j.waiting && decide (j.wait = 0)
  | none => false

/-- WAIT_LIMIT_EXPIRY (R155): every voice still reserved is cut to TUNING and announced as taken, in ascending index (DESIGN CHOICE,
log entry 41: R155 gives no order). -/
def execWaitLimitExpiry (s : State) : Host.Outcome State Fault Refusal :=
  .next (whenRunning (fun s =>
    if waitOver s then (List.finRange 8).foldl (fun s v => cutReserved v s) s else s) s)

/-! ### Requests -/

/-- TUNE_START at the Tune Unit, its checks in the order of R151. -/
def serveTuneStart (scope depth force save disableFailed : Byte) : State → State × Option (List Byte) :=
  servedWhenReady fun s =>
    match depthOf depth.toNat, flagOf force, flagOf save, flagOf disableFailed with
    | some d, some f, some sv, some df =>
      if s.tune.job.isSome then (s, answer .busy)
      else
        match pairVoices (enabledScope scope s) with
        | [] => (s, answer .badArg)
        | rounds => (createJob .link scope d f sv df rounds s, answer .accepted)
    | _, _, _, _ => (s, answer .badArg)

/-- A job in WAITING or MEASURING stops: channels IDLE, voices released, overrides cleared (steps 1 to 3 of R166). -/
def stopJob (s : State) : State :=
  let s1 := releaseAll { s with tune := { s.tune with channels := tab fun _ => Channel.idle } }
  { s1 with
    refresh := { s1.refresh with overrides := tab fun _ => Override.clear }
    tune := { s1.tune with job := none } }

/-- TUNE_ABORT at the Tune Unit (R166). -/
def serveTuneAbort : State → State × Option (List Byte) :=
  servedWhenReady fun s =>
    match s.tune.job with
    | none => (s, answer .nothingToDo)
    | some j =>
      if j.saving then (s, answer .busy)
      else
        (offer (decide (j.origin = .link)) (.tuneDone .aborted j.okCount j.failedCount .notSaved) (stopJob s), answer .done)

/-- SET_REFERENCE at the Tune Unit (R149). -/
def serveSetReference (value : BitVec 32) : State → State × Option (List Byte) :=
  servedWhenReady fun s =>
    if value.toNat < 200000 ∨ 420000 < value.toNat then (s, answer .badArg)
    else if s.tune.job.isSome then (s, answer .busy)
    else ({ s with tune := { s.tune with reference := value.toNat } }, answer .done)

/-- SET_TUNE_DEFAULTS at the Tune Unit (R150). -/
def serveSetTuneDefaults (b : DefaultsBytes) : State → State × Option (List Byte) :=
  servedWhenReady fun s =>
    match defaultsOfBytes b with
    | none => (s, answer .badArg)
    | some d => ({ s with tune := { s.tune with defaults := d } }, answer .done)

/-- The data of GET_TUNING (R167, 11.4). -/
def tuningData (o : Fin 16) (t : Tune) : List Byte :=
  let ps := t.table[o].toList
  bytesLE 4 t.reference ++ (ps.flatMap fun q => word16 q.entry) ++ (ps.map fun q => statusCode q.status) ++
    ps.flatMap fun q => signed16 q.residual

/-- GET_TUNING at the Tune Unit (R167). -/
def serveGetTuning (oscillator : Byte) : State → State × Option (List Byte) :=
  servedWhenReady fun s =>
    match indexOf 16 oscillator with
    | none => (s, answer .badArg)
    | some o => (s, answerData (tuningData o s.tune))

/-- SAVE_TUNING at the Tune Unit (R168). -/
def serveSaveTuning : State → State × Option (List Byte) :=
  servedWhenReady fun s =>
    if s.tune.job.isSome ∨ s.busy = true then (s, answer .busy) else (beginTuningSave .link s, answer .accepted)

/-- TUNE_START (R151). -/
def execTuneStart (scope depth force save disableFailed : Byte) (s : State) : Host.Outcome State Fault Refusal :=
  .next (whenRunning (takeFrame false 0x50 (serveTuneStart scope depth force save disableFailed)) s)

/-- TUNE_ABORT (R166). -/
def execTuneAbort (s : State) : Host.Outcome State Fault Refusal :=
  .next (whenRunning (takeFrame false 0x51 serveTuneAbort) s)

/-- SET_REFERENCE (R149). -/
def execSetReference (value : BitVec 32) (s : State) : Host.Outcome State Fault Refusal :=
  .next (whenRunning (takeFrame false 0x52 (serveSetReference value)) s)

/-- SET_TUNE_DEFAULTS (R150). -/
def execSetTuneDefaults (defaults : DefaultsBytes) (s : State) : Host.Outcome State Fault Refusal :=
  .next (whenRunning (takeFrame false 0x53 (serveSetTuneDefaults defaults)) s)

/-- GET_TUNING (R167). -/
def execGetTuning (oscillator : Byte) (s : State) : Host.Outcome State Fault Refusal :=
  .next (whenRunning (takeFrame false 0x54 (serveGetTuning oscillator)) s)

/-- SAVE_TUNING (R168). -/
def execSaveTuning (s : State) : Host.Outcome State Fault Refusal :=
  .next (whenRunning (takeFrame false 0x55 serveSaveTuning) s)

end Sys2Proof.Machine
end

