-- ==== Sys2Proof/Machine/Panel.lean ====
section
/-! DEFINITION. The Switch and Lamp Matrix (R110 to R126): the row step and the full scan, switch and group actions, and the
requests of the panel. -/

namespace Sys2Proof.Machine

def setMatrix (m : Matrix) (s : State) : State := { s with matrix := m }

/-! ### Sensing and debouncing (R111, R112) -/

/-- The switches after the columns of row `r` have been sensed; a set bit is a switch that is down (R111). -/
def senseRow (r : Fin 8) (columns : Byte) (xs : Vector Switch 64) : Vector Switch 64 :=
  tab fun i => if i.val / 8 = r.val then { xs[i] with sensed := columns.getLsbD (i.val % 8) } else xs[i]

/-- The candidate of a switch after a full scan, before acceptance (R112). -/
def followCandidate (x : Switch) : Switch :=
  if x.sensed = x.stable then { x with candidate := x.stable, count := 0 }
  else if x.sensed = x.candidate then { x with count := x.count + 1 }
  else { x with candidate := x.sensed, count := 1 }

/-- A switch debounced at a full-scan completion with depth `d` (R112). -/
def debounceSwitch (d : Nat) (x : Switch) : Switch :=
  let y := followCandidate x
  if d ≤ y.count then { y with stable := y.candidate, count := 0 } else y

/-- A switch primed at a full-scan completion (R112). -/
def primeSwitch (x : Switch) : Switch := { x with stable := x.sensed, candidate := x.sensed, count := 0 }

/-- The edge accepted between two records of a switch: `true` for PRESS. -/
def edgeOf (old new : Switch) : Option Bool := if old.stable = new.stable then none else some new.stable

/-- The edges accepted at a full-scan completion, one place per switch. -/
abbrev Edges := Vector (Option Bool) 64

/-- Step 1 of R113: every switch debounced, or primed without edges while priming is yes. -/
def debounceAll (m : Matrix) : Matrix × Edges :=
  if m.priming then
    ({ m with switches := tab fun i => primeSwitch m.switches[i], priming := false }, tab fun _ => none)
  else
    let after : Vector Switch 64 := tab fun i => debounceSwitch m.debounce m.switches[i]
    ({ m with switches := after }, tab fun i => edgeOf m.switches[i] after[i])

/-! ### Actions (R114 to R116) -/

/-- An action performed on a PRESS, or by a firing group (R115, R118). -/
def performAction (a : Action) (s : State) : State :=
  match a with
  | .none => s
  | .recall slot => handPanelOp (.recall slot) s
  | .next => handPanelOp .next s
  | .prev => handPanelOp .prev s
  | .pedal => setPedal true s
  | .tune => panelTune s
  | .storeCurrent => if s.params.currentSlot.isSome then handPanelOp .storeCurrent s else s

/-- The action of a switch at an accepted edge (R115). -/
def switchAction (a : Action) (press : Bool) (s : State) : State :=
  if press then performAction a s
  else
    match a with
    | .pedal => setPedal false s
    | _ => s

/-- The report spec reports an edge (R114). -/
def ReportSpec.reports (spec : ReportSpec) (press : Bool) : Bool :=
  match spec with
  | .none => false
  | .press => press
  | .release => !press
  | .both => true

/-- The report and then the action of one accepted edge (step 2 of R113). -/
def handleEdge (edges : Edges) (s : State) (i : Fin 64) : State :=
  match edges[i] with
  | none => s
  | some press =>
    let x := s.matrix.switches[i]
    switchAction x.action press (if x.spec.reports press then offer false (.switchEvent i press) s else s)

/-! ### Match groups (R117, R118) -/

/-- One condition of a group (R117). -/
def Condition.holds (c : Condition) (stable : Bool) (edge : Option Bool) : Bool :=
  match c with
  | .ignore => true
  | .isDown => stable
  | .isUp => !stable
  | .pressed => edge = some true
  | .released => edge = some false
  | .changed => edge.isSome

/-- The 64 stable states, bit i for switch i. -/
def stableStates (m : Matrix) : BitVec 64 := BitVec.ofNat 64 (bitSet fun i : Fin 64 => m.switches[i].stable)

/-- A group watches at least one switch; if not it is not evaluated (R117). -/
def Group.watches (g : Group) : Bool := g.conditions.toList.any fun c => c ≠ .ignore

/-- The truth of a group that is evaluated; an all-IGNORE group counts as false (R117). -/
def Group.truth (g : Group) (m : Matrix) (edges : Edges) : Bool :=
  g.watches && (List.finRange 64).all fun i => g.conditions[i].holds m.switches[i].stable edges[i]

/-- A firing group's report (R118). -/
def groupReport (g : Fin 4) (s : State) : Report :=
  .groupMatch g (if s.matrix.groups[g].latched then some (stableStates s.matrix) else none)

/-- One group at a full-scan completion (step 3 of R113): it fires when it has become true, unless `mute` holds (during
start-up, and at a priming completion). -/
def evaluateGroup (edges : Edges) (mute : Bool) (s : State) (g : Fin 4) : State :=
  let x := s.matrix.groups[g]
  let truth := x.truth s.matrix edges
  let s1 := { s with matrix := { s.matrix with groups := upd s.matrix.groups g fun x => { x with previous := truth } } }
  if truth && !x.previous && !mute then performAction x.action (offer false (groupReport g s) s1) else s1

/-- A full-scan completion, in the order of R113. -/
def fullScan (s : State) : State :=
  let primed := s.matrix.priming
  let r := debounceAll s.matrix
  let s1 := setMatrix r.1 s
  let s2 := if s.loading then s1 else (List.finRange 64).foldl (handleEdge r.2) s1
  [0, 1, 2, 3].foldl (evaluateGroup r.2 (primed || s.loading)) s2

/-- The matrix drives the row at the row position with the shown states of its lamps (R111). -/
def driveRow (s : State) : State := { s with matrix := { s.matrix with columns := rowColumns s s.matrix.row } }

/-- The columns are sensed and the row position advances (R111). -/
def senseAndAdvance (columns : Byte) (m : Matrix) : Matrix :=
  { m with switches := senseRow m.row columns m.switches, row := m.row + 1 }

/-- ROW_STEP_END (R111): the end of row step 7 is a full-scan completion, handled before the next row step begins (log
entry 31). -/
def execRowStepEnd (columns : Byte) (s : State) : Host.Outcome State Fault Refusal :=
  .next (whenRunning (fun s =>
    let s1 := setMatrix (senseAndAdvance columns s.matrix) s
    if s.matrix.row = 7 then transmit (driveRow (fullScan s1)) else driveRow s1) s)

/-- RESTART of the matrix (R126). -/
def restartMatrix (s : State) : State :=
  { s with matrix := { s.matrix with
      priming := true
      switches := tab fun i =>
        { s.matrix.switches[i] with candidate := s.matrix.switches[i].stable, count := 0 } } }

/-! ### Requests -/

/-- SET_SWITCH at the matrix (R119). -/
def serveSetSwitch (switch spec action slot : Byte) : State → State × Option (List Byte) :=
  servedWhenReady fun s =>
    match indexOf 64 switch, specOf spec.toNat, actionOf action.toNat slot.toNat with
    | some i, some sp, some a =>
      (setMatrix { s.matrix with switches := upd s.matrix.switches i fun x => { x with spec := sp, action := a } } s,
        answer .done)
    | _, _, _ => (s, answer .badArg)

/-- SET_DEBOUNCE at the matrix (R119). -/
def serveSetDebounce (depth : Byte) : State → State × Option (List Byte) :=
  servedWhenReady fun s =>
    match debounceOf depth.toNat with
    | none => (s, answer .badArg)
    | some d => (setMatrix { s.matrix with debounce := d } s, answer .done)

/-- The code of switch `i` in the conditions of a SET_GROUP (11.2). -/
def conditionField (cs : BitVec 192) (i : Fin 64) : Nat := (cs.toNat >>> (3 * i.val)) % 8

/-- The conditions of a SET_GROUP; `none` when a code is outside its list (R120). -/
def conditionsOf (cs : BitVec 192) : Option (Vector Condition 64) :=
  if (List.finRange 64).all fun i => (conditionOf (conditionField cs i)).isSome then
    some (tab fun i => (conditionOf (conditionField cs i)).getD .ignore)
  else none

/-- SET_GROUP at the matrix (R120). -/
def serveSetGroup (group : Byte) (conditions : BitVec 192) (latched action slot : Byte) : State → State × Option (List Byte) :=
  servedWhenReady fun s =>
    match indexOf 4 group, conditionsOf conditions, flagOf latched, groupActionOf action.toNat slot.toNat with
    | some g, some cs, some l, some a =>
      (setMatrix { s.matrix with
          groups := s.matrix.groups.set g { conditions := cs, latched := l, action := a, previous := false } } s, answer .done)
    | _, _, _, _ => (s, answer .badArg)

/-- The code of lamp `i` in the states of a SET_LAMPS (11.2). -/
def lampField (states : BitVec 128) (i : Fin 64) : Nat := (states.toNat >>> (2 * i.val)) % 4

/-- Every masked lamp has a state code inside its list (R123). -/
def lampsValid (mask : BitVec 64) (states : BitVec 128) : Bool :=
  (List.finRange 64).all fun i => !mask.getLsbD i.val || (lampStateOf (lampField states i)).isSome

/-- SET_LAMPS at the matrix (R123). -/
def serveSetLamps (mask : BitVec 64) (states : BitVec 128) : State → State × Option (List Byte) :=
  servedWhenReady fun s =>
    if lampsValid mask states then
      (setMatrix { s.matrix with
          lamps := tab fun i =>
            if mask.getLsbD i.val then { s.matrix.lamps[i] with state := (lampStateOf (lampField states i)).getD .off }
            else s.matrix.lamps[i] } s, answer .done)
    else (s, answer .badArg)

/-- SET_LAMP_BINDING at the matrix (R123). -/
def serveSetLampBinding (lamp binding : Byte) : State → State × Option (List Byte) :=
  servedWhenReady fun s =>
    match indexOf 64 lamp, bindingOf binding.toNat with
    | some i, some b =>
      (setMatrix { s.matrix with lamps := upd s.matrix.lamps i fun l => { l with binding := b } } s, answer .done)
    | _, _ => (s, answer .badArg)

/-- SET_BLINK at the matrix (R122). -/
def serveSetBlink (onTime offTime : BitVec 16) : State → State × Option (List Byte) :=
  servedWhenReady fun s =>
    (setMatrix { s.matrix with
        onTime := clampNat 50 2000 onTime.toNat
        offTime := clampNat 50 2000 offTime.toNat } s, answer .done)

/-- The data of GET_SWITCH (R124, 11.4). -/
def switchData (x : Switch) : List Byte :=
  [byteOf (boolBit x.sensed 0 + boolBit x.stable 1 + boolBit x.candidate 2), byteOf x.count, byteOf (specCode x.spec),
    byteOf (actionCode x.action), byteOf (actionSlot x.action)]

/-- GET_SWITCH at the matrix (R124). -/
def serveGetSwitch (switch : Byte) : State → State × Option (List Byte) :=
  servedWhenReady fun s =>
    match indexOf 64 switch with
    | none => (s, answer .badArg)
    | some i => (s, answerData (switchData s.matrix.switches[i]))

/-- A lamp's byte in GET_PANEL (11.4). Its shown state is computed from the lamp's inputs at the request, not taken from the lamp's
last row step (DESIGN CHOICE, log entry 40: R124 does not say which). -/
def lampByte (s : State) (l : Lamp) : Byte :=
  byteOf (lampStateCode l.state + 4 * bindingCode l.binding + boolBit (shownLit s l) 4)

/-- The data of GET_PANEL part 0 (R124, 11.4). -/
def panelData (s : State) : List Byte :=
  let m := s.matrix
  [0] ++ bytesLE 8 (stableStates m).toNat ++ [byteOf m.debounce] ++ word16 m.onTime ++ word16 m.offTime ++
    [boolByte m.blinkOn] ++ word16 m.blinkRemaining ++ m.lamps.toList.map (lampByte s)

/-- The data of GET_PANEL part g + 1 (R124, 11.4). -/
def groupData (g : Fin 4) (s : State) : List Byte :=
  let x := s.matrix.groups[g]
  [byteOf (g.val + 1)] ++ bytesLE 24 (packFields (x.conditions.toList.map fun c => (3, conditionCode c))) ++
    [byteOf (boolBit x.latched 0 + boolBit x.previous 1), byteOf (actionCode x.action), byteOf (actionSlot x.action)]

/-- GET_PANEL at the matrix (R124). -/
def serveGetPanel (part : Byte) : State → State × Option (List Byte) :=
  servedWhenReady fun s =>
    if part = 0 then (s, answerData (panelData s))
    else
      match indexOf 4 (part - 1) with
      | some g => (s, answerData (groupData g s))
      | none => (s, answer .badArg)

/-- SET_SWITCH (R119). -/
def execSetSwitch (switch spec action slot : Byte) (s : State) : Host.Outcome State Fault Refusal :=
  .next (whenRunning (takeFrame false 0x38 (serveSetSwitch switch spec action slot)) s)

/-- SET_DEBOUNCE (R119). -/
def execSetDebounce (depth : Byte) (s : State) : Host.Outcome State Fault Refusal :=
  .next (whenRunning (takeFrame false 0x39 (serveSetDebounce depth)) s)

/-- SET_GROUP (R120). -/
def execSetGroup (group : Byte) (conditions : BitVec 192) (latched action slot : Byte) (s : State) :
    Host.Outcome State Fault Refusal :=
  .next (whenRunning (takeFrame false 0x3A (serveSetGroup group conditions latched action slot)) s)

/-- SET_LAMPS (R123). -/
def execSetLamps (mask : BitVec 64) (states : BitVec 128) (s : State) : Host.Outcome State Fault Refusal :=
  .next (whenRunning (takeFrame false 0x3B (serveSetLamps mask states)) s)

/-- SET_LAMP_BINDING (R123). -/
def execSetLampBinding (lamp binding : Byte) (s : State) : Host.Outcome State Fault Refusal :=
  .next (whenRunning (takeFrame false 0x3C (serveSetLampBinding lamp binding)) s)

/-- SET_BLINK (R122). -/
def execSetBlink (onTime offTime : BitVec 16) (s : State) : Host.Outcome State Fault Refusal :=
  .next (whenRunning (takeFrame false 0x3D (serveSetBlink onTime offTime)) s)

/-- GET_SWITCH (R124). -/
def execGetSwitch (switch : Byte) (s : State) : Host.Outcome State Fault Refusal :=
  .next (whenRunning (takeFrame false 0x3E (serveGetSwitch switch)) s)

/-- GET_PANEL (R124). -/
def execGetPanel (part : Byte) (s : State) : Host.Outcome State Fault Refusal :=
  .next (whenRunning (takeFrame false 0x3F (serveGetPanel part)) s)

end Sys2Proof.Machine
end

