-- ==== Sys2Proof/Machine/LinkRequests.lean ====
section
/-! DEFINITION. The Control Link's own requests: LINK_STATS (R174), GET_STATUS (R182), SET_REPORT_MASK (R180) and RESTART
(R183) with what each block does at it (R18, R19, R76, R91, R109, R126, R146, R169). -/

namespace Sys2Proof.Machine

/-- The data of LINK_STATS (R174, 11.4). -/
def linkData (l : Link) : List Byte := word16 l.valid ++ [byteOf l.discarded, l.flags.toByte]

/-- LINK_STATS at the link (R174): answered at any time; the counts and flags are reset behind the snapshot. -/
def serveLinkStats (s : State) : State × Option (List Byte) :=
  ({ s with link := { s.link with valid := 0, discarded := 0, flags := LinkFlags.clear } }, answerData (linkData s.link))

/-- A voice's byte in GET_STATUS (11.4). -/
def voiceByte (x : Voice) : Byte := byteOf (voiceStateCode x.state + boolBit x.reserved 3)

/-- The data of GET_STATUS (R182, 11.4). -/
def statusData (s : State) : List Byte :=
  let j := s.tune.job
  [boolByte s.memory.ready, optByte s.params.currentSlot, boolByte s.params.edited, boolByte s.assigner.pedalDown] ++
    signed16 s.assigner.bend ++ [byteOf s.assigner.keyList.length, byteOf s.assigner.waiting.length] ++
    s.table.voices.toList.map voiceByte ++
    [jobStateCode j, byteOf ((j.map Job.round).getD 0), byteOf ((j.map fun j => j.rounds.length).getD 0), boolByte s.busy]

/-- GET_STATUS at the link (R182): answered at any time. -/
def serveGetStatus (s : State) : State × Option (List Byte) := (s, answerData (statusData s))

/-- The flag byte of report kind 0x60 + i in a SET_REPORT_MASK. -/
def maskByte (flags : BitVec 88) (i : Nat) : Byte := flags.extractLsb' (8 * i) 8

/-- The mask of a SET_REPORT_MASK; `none` when a flag is other than 0 or 1 (R180). -/
def maskOf (flags : BitVec 88) : Option (BitVec 11) :=
  if (List.range 11).all fun i => (flagOf (maskByte flags i)).isSome then
    some (BitVec.ofNat 11 (bitSet fun i : Fin 11 => maskByte flags i.val = 1))
  else none

/-- SET_REPORT_MASK at the link (R180). -/
def serveSetReportMask (flags : BitVec 88) : State → State × Option (List Byte) :=
  servedWhenReady fun s =>
    match maskOf flags with
    | none => (s, answer .badArg)
    | some m => ({ s with link := { s.link with mask := m } }, answer .done)

/-! ### RESTART -/

/-- A voice record at RESTART (R18). -/
def restartVoice (x : Voice) : Voice :=
  { x with
    state := if x.state = .off then .off else .free
    reserved := false
    key := none
    gate := .low
    gap := 0
    release := 0
    refreshedA := false
    refreshedB := false }

/-- RESTART of the Voice Table (R18). -/
def restartTable (s : State) : State :=
  { s with table := { s.table with voices := tab fun v => restartVoice s.table.voices[v], releaseOrder := [] } }

/-- RESTART of the Note Assigner (R19). -/
def restartAssigner (s : State) : State :=
  { s with assigner := { s.assigner with
      keyList := [], waiting := [], pedalDown := false, bend := 0, monoKey := none, monoStack := [] } }

/-- RESTART of the Output Refresh Sequencer (R76). -/
def restartRefresh (s : State) : State :=
  { s with refresh := { s.refresh with overrides := tab fun _ => Override.clear } }

/-- RESTART of the Tune Unit (R169). -/
def restartTune (s : State) : State :=
  { s with tune := { s.tune with channels := tab fun _ => Channel.idle, job := none } }

/-- RESTART of the link: both queues emptied and the lost mark cleared (step 1 of R183). -/
def restartLink (s : State) : State := { s with link := { s.link with replies := [], reports := [], lost := false } }

/-- Every block performs its RESTART (R183); Patch Memory and the Control-Voltage Engine keep what they hold (R63, R146). -/
def restartPart (s : State) : State :=
  restartLink (restartTune (restartMatrix (restartScanner (restartParams (restartRefresh (restartAssigner (restartTable s)))))))

/-- Patch Memory has an operation in flight or an item pending (R183). -/
def memoryEngaged (s : State) : Bool := s.busy || s.memory.pendingPanel.isSome || s.memory.pendingTune

/-- RESTART at the link (R183). -/
def serveRestart : State → State × Option (List Byte) :=
  servedWhenReady fun s => if memoryEngaged s then (s, answer .busy) else (restartPart s, answer .done)

/-- LINK_STATS (R174). -/
def execLinkStats (s : State) : Host.Outcome State Fault Refusal :=
  .next (whenRunning (takeFrame false 0x58 serveLinkStats) s)

/-- GET_STATUS (R182). -/
def execGetStatus (s : State) : Host.Outcome State Fault Refusal :=
  .next (whenRunning (takeFrame false 0x59 serveGetStatus) s)

/-- SET_REPORT_MASK (R180). -/
def execSetReportMask (flags : BitVec 88) (s : State) : Host.Outcome State Fault Refusal :=
  .next (whenRunning (takeFrame false 0x5A (serveSetReportMask flags)) s)

/-- RESTART (R183). -/
def execRestart (s : State) : Host.Outcome State Fault Refusal :=
  .next (whenRunning (takeFrame false 0x5B serveRestart) s)

end Sys2Proof.Machine
end

