-- ==== Sys2Proof/Machine/Notes.lean ====
section
/-! DEFINITION. The play messages (R23 to R40), SET_VOICE_SETUP (R41) and the requests of the Voice Table (R16, R17). -/

namespace Sys2Proof.Machine

/-! ### Play messages: answered only when refused (R23) -/

/-- A key release message, NOTE_OFF or NOTE_ON with velocity 0, at the Note Assigner (R31, R37). -/
def releaseKey (key : Nat) (s : State) : State :=
  match s.assigner.setup.mode with
  | .poly => polyNoteOff key s
  | .mono => monoNoteOff key s

/-- A key press at the Note Assigner with its clamped velocity (R24, R35, R36). -/
def pressKey (key vel : Nat) (s : State) : State :=
  match s.assigner.setup.mode with
  | .poly => polyNoteOn key vel s
  | .mono => monoNoteOn key vel s

/-- NOTE_ON at the Note Assigner: a key above 127 is refused, a velocity above 127 clamped, velocity 0 a NOTE_OFF (R23). -/
def serveNoteOn (key velocity : Byte) : State → State × Option (List Byte) :=
  servedWhenReady fun s =>
    if 127 < key.toNat then (s, answer .badArg)
    else if velocity = 0 then (releaseKey key.toNat s, none)
    else (pressKey key.toNat (clampNat 1 127 velocity.toNat) s, none)

/-- NOTE_OFF at the Note Assigner; its velocity is ignored (R23). -/
def serveNoteOff (key : Byte) : State → State × Option (List Byte) :=
  servedWhenReady fun s => if 127 < key.toNat then (s, answer .badArg) else (releaseKey key.toNat s, none)

/-- PEDAL at the Note Assigner: 0 is UP, any other value DOWN (R38). -/
def servePedal (state : Byte) : State → State × Option (List Byte) :=
  servedWhenReady fun s => (setPedal (decide (state ≠ 0)) s, none)

/-- BEND at the Note Assigner (R39). -/
def serveBend (value : BitVec 16) : State → State × Option (List Byte) :=
  servedWhenReady fun s =>
    ({ s with assigner := { s.assigner with bend := clampInt (-8192) 8191 value.toInt } }, none)

/-- What ALL_OFF empties first (R40). -/
def clearAssigner (s : State) : State :=
  { s with assigner := { s.assigner with
      keyList := [], waiting := [], monoKey := none, monoStack := [], pedalDown := false } }

/-- ALL_OFF: the lists are emptied, then every voice in play is released or cut, ascending (R40). -/
def allOff (cut : Bool) (s : State) : State :=
  let s1 := clearAssigner s
  if cut then (List.finRange 8).foldl (fun s v => cutByAllOff v s) s1 else releaseWhere Voice.playing s1

/-- ALL_OFF at the Note Assigner: 0 is no cut, any other value cut (R40). -/
def serveAllOff (cut : Byte) : State → State × Option (List Byte) :=
  servedWhenReady fun s => (allOff (decide (cut ≠ 0)) s, none)

/-- NOTE_ON (R24). -/
def execNoteOn (key velocity : Byte) (s : State) : Host.Outcome State Fault Refusal :=
  .next (whenRunning (takeFrame true 0x10 (serveNoteOn key velocity)) s)

/-- NOTE_OFF (R31). -/
def execNoteOff (key _velocity : Byte) (s : State) : Host.Outcome State Fault Refusal :=
  .next (whenRunning (takeFrame true 0x11 (serveNoteOff key)) s)

/-- PEDAL (R38). -/
def execPedal (state : Byte) (s : State) : Host.Outcome State Fault Refusal :=
  .next (whenRunning (takeFrame true 0x12 (servePedal state)) s)

/-- BEND (R39). -/
def execBend (value : BitVec 16) (s : State) : Host.Outcome State Fault Refusal :=
  .next (whenRunning (takeFrame true 0x13 (serveBend value)) s)

/-- ALL_OFF (R40). -/
def execAllOff (cut : Byte) (s : State) : Host.Outcome State Fault Refusal :=
  .next (whenRunning (takeFrame true 0x14 (serveAllOff cut)) s)

/-! ### Requests -/

/-- SET_VOICE_SETUP at the Note Assigner (R41). -/
def serveSetVoiceSetup (b : SetupBytes) : State → State × Option (List Byte) :=
  servedWhenReady fun s =>
    match setupOfBytes b with
    | none => (s, answer .badArg)
    | some setup => (setEdited (adoptSetup setup s), answer .done)

/-- One voice of a VOICE_ENABLE off (R16). -/
def turnOff (v : Fin 8) (s : State) : State := if (s.voice v).state.playable then cutVoice v .off s else s

/-- One voice of a VOICE_ENABLE on (R16). -/
def turnOn (v : Fin 8) (s : State) : State :=
  if (s.voice v).state = .off then
    voiceReturned v (modVoice v (fun x => { x with state := .free, enabled := true }) s)
  else s

/-- VOICE_ENABLE at the Voice Table (R16). A direction out of range is judged before a TUNING or reserved voice in the set (DESIGN
CHOICE, log entry 36: R16 gives no order between BAD_ARG and BUSY). -/
def serveVoiceEnable (voices direction : Byte) : State → State × Option (List Byte) :=
  servedWhenReady fun s =>
    match flagOf direction with
    | none => (s, answer .badArg)
    | some on =>
      if (voicesOf voices).any fun v => decide ((s.voice v).state = .tuning) || (s.voice v).reserved then
        (s, answer .busy)
      else ((voicesOf voices).foldl (fun s v => if on then turnOn v s else turnOff v s) s, answer .done)

/-- The flag byte of GET_VOICE (11.4). -/
def voiceFlags (x : Voice) : Byte :=
  byteOf (boolBit x.reserved 0 + boolBit x.enabled 1 + boolBit x.refreshedA 2 + boolBit x.refreshedB 3 +
    boolBit x.pitchAClamped 4 + boolBit x.pitchBClamped 5 + boolBit x.codeClamped 6)

/-- The data of GET_VOICE (R17, 11.4). -/
def voiceData (v : Fin 8) (s : State) : List Byte :=
  let x := s.voice v
  [byteOf (voiceStateCode x.state), voiceFlags x, optByte x.key, optByte x.lastKey, byteOf x.velocity, byteOf x.stackPos] ++
    optWord16 x.glide ++ optWord16 x.glideTarget ++ [gateCode x.gate, byteOf x.trigger, byteOf x.gap] ++
    word16 x.release ++ [byteOf (s.table.startOrder.idxOf v), optByte (s.table.releaseOrder.idxOf? v)]

/-- GET_VOICE at the Voice Table (R17). -/
def serveGetVoice (voice : Byte) : State → State × Option (List Byte) :=
  servedWhenReady fun s =>
    match indexOf 8 voice with
    | none => (s, answer .badArg)
    | some v => (s, answerData (voiceData v s))

/-- SET_VOICE_SETUP (R41). -/
def execSetVoiceSetup (setup : SetupBytes) (s : State) : Host.Outcome State Fault Refusal :=
  .next (whenRunning (takeFrame false 0x22 (serveSetVoiceSetup setup)) s)

/-- VOICE_ENABLE (R16). -/
def execVoiceEnable (voices direction : Byte) (s : State) : Host.Outcome State Fault Refusal :=
  .next (whenRunning (takeFrame false 0x20 (serveVoiceEnable voices direction)) s)

/-- GET_VOICE (R17). -/
def execGetVoice (voice : Byte) (s : State) : Host.Outcome State Fault Refusal :=
  .next (whenRunning (takeFrame false 0x21 (serveGetVoice voice)) s)

end Sys2Proof.Machine
end

