-- ==== Sys2Proof/Machine/PatchRequests.lean ====
section
/-! DEFINITION. The requests of Patch Memory (R134 to R143). -/

namespace Sys2Proof.Machine

/-- A memory request: NOT_READY during the load, BUSY with an operation in flight, and otherwise `own`, which checks the
fields (section 8.5; log entry 2 for the order of the last two). -/
def servedWhenFree (own : State → State × Option (List Byte)) : State → State × Option (List Byte) :=
  servedWhenReady fun s => if s.busy then (s, answer .busy) else own s

/-- A read operation of origin LINK starts. -/
def startRead (kind : OpKind) (slot : Nat) (s : State) : State := setOp (newOp kind (.slot slot) .link .read 10) s

/-- RECALL at Patch Memory (R134). -/
def serveRecall (slot : Byte) : State → State × Option (List Byte) :=
  servedWhenFree fun s => if 127 < slot.toNat then (s, answer .badArg) else (startRead .recall slot.toNat s, answer .accepted)

/-- STORE at Patch Memory (R136). -/
def serveStore (slot : Byte) (name : BitVec 96) (protect : Byte) : State → State × Option (List Byte) :=
  servedWhenFree fun s =>
    match flagOf protect with
    | none => (s, answer .badArg)
    | some prot =>
      if slot.toNat ≤ 127 ∧ (nameChars name).all printable = true then
        (beginStore .store slot.toNat (liveRecord prot (nameChars name) s) s, answer .accepted)
      else (s, answer .badArg)

/-- WRITE_PATCH at Patch Memory (R137, R186). -/
def serveWritePatch (slot : Byte) (record : BitVec 896) : State → State × Option (List Byte) :=
  servedWhenFree fun s =>
    if slot.toNat ≤ 127 ∧ recordWritable record = true then
      (beginStore .patchWrite slot.toNat record s, answer .accepted)
    else (s, answer .badArg)

/-- READ_PATCH at Patch Memory (R138). -/
def serveReadPatch (slot : Byte) : State → State × Option (List Byte) :=
  servedWhenFree fun s =>
    if 127 < slot.toNat then (s, answer .badArg) else (startRead .patchRead slot.toNat s, answer .accepted)

/-- PATCH_INFO at Patch Memory (R138). -/
def servePatchInfo (slot : Byte) : State → State × Option (List Byte) :=
  servedWhenFree fun s =>
    if 127 < slot.toNat then (s, answer .badArg) else (startRead .patchInfo slot.toNat s, answer .accepted)

/-- PROTECT at Patch Memory (R139). -/
def serveProtect (slot setting : Byte) : State → State × Option (List Byte) :=
  servedWhenFree fun s =>
    match flagOf setting with
    | none => (s, answer .badArg)
    | some on =>
      if 127 < slot.toNat then (s, answer .badArg)
      else (setOp { newOp .protect (.slot slot.toNat) .link .heading 1 with setting := on } s, answer .accepted)

/-- SAVE_SETUP at Patch Memory (R142). -/
def serveSaveSetup : State → State × Option (List Byte) :=
  servedWhenFree fun s =>
    let op := { newOp .setupSave .setupArea .link .erase 0 with image := setupImage s }
    (checkSupply op s, answer .accepted)

/-- SET_POWER_ON_SLOT at Patch Memory (R142): taken even while an operation is in flight. -/
def serveSetPowerOnSlot (slot : Byte) : State → State × Option (List Byte) :=
  servedWhenReady fun s =>
    if 127 < slot.toNat then (s, answer .badArg)
    else ({ s with memory := { s.memory with powerOnSlot := slot.toNat } }, answer .done)

/-- The data of MEMORY_STATUS (R143, 11.4). -/
def memoryData (m : Memory) : List Byte :=
  [byteOf m.secCount] ++ optWord16 m.lastSec ++ optWord16 m.lastDed ++
    [(m.op.map fun op => opKindCode op.kind).getD 0, (m.pendingPanel.map panelOpCode).getD 0,
      byteOf ((m.pendingPanel.map panelOpSlot).getD 0), boolByte m.pendingTune]

/-- The statistics reset (R143). -/
def resetStatistics (s : State) : State :=
  { s with memory := { s.memory with secCount := 0, lastSec := none, lastDed := none } }

/-- MEMORY_STATUS at Patch Memory (R143): the snapshot, then the reset of the statistics. -/
def serveMemoryStatus : State → State × Option (List Byte) :=
  servedWhenReady fun s => (resetStatistics s, answerData (memoryData s.memory))

/-- RECALL (R134). -/
def execRecall (slot : Byte) (s : State) : Host.Outcome State Fault Refusal :=
  .next (whenRunning (takeFrame false 0x40 (serveRecall slot)) s)

/-- STORE (R136). -/
def execStore (slot : Byte) (name : BitVec 96) (protect : Byte) (s : State) : Host.Outcome State Fault Refusal :=
  .next (whenRunning (takeFrame false 0x41 (serveStore slot name protect)) s)

/-- WRITE_PATCH (R137). -/
def execWritePatch (slot : Byte) (record : BitVec 896) (s : State) : Host.Outcome State Fault Refusal :=
  .next (whenRunning (takeFrame false 0x42 (serveWritePatch slot record)) s)

/-- READ_PATCH (R138). -/
def execReadPatch (slot : Byte) (s : State) : Host.Outcome State Fault Refusal :=
  .next (whenRunning (takeFrame false 0x43 (serveReadPatch slot)) s)

/-- PATCH_INFO (R138). -/
def execPatchInfo (slot : Byte) (s : State) : Host.Outcome State Fault Refusal :=
  .next (whenRunning (takeFrame false 0x44 (servePatchInfo slot)) s)

/-- PROTECT (R139). -/
def execProtect (slot setting : Byte) (s : State) : Host.Outcome State Fault Refusal :=
  .next (whenRunning (takeFrame false 0x45 (serveProtect slot setting)) s)

/-- SAVE_SETUP (R142). -/
def execSaveSetup (s : State) : Host.Outcome State Fault Refusal :=
  .next (whenRunning (takeFrame false 0x46 serveSaveSetup) s)

/-- SET_POWER_ON_SLOT (R142). -/
def execSetPowerOnSlot (slot : Byte) (s : State) : Host.Outcome State Fault Refusal :=
  .next (whenRunning (takeFrame false 0x47 (serveSetPowerOnSlot slot)) s)

/-- MEMORY_STATUS (R143). -/
def execMemoryStatus (s : State) : Host.Outcome State Fault Refusal :=
  .next (whenRunning (takeFrame false 0x48 serveMemoryStatus) s)

end Sys2Proof.Machine
end

