-- ==== Sys2Proof/Machine/Receiver.lean ====
section
/-! DEFINITION. The receiver and the transmitter of the Control Link: bytes and line events (R171 to R173), dispatch (R175)
and the end of a frame sent (R181). -/

namespace Sys2Proof.Machine

/-- The owning block's act on a request or play message (R175); an event of the part is never carried by a frame. -/
def serveRequest (i : Instr) : State → State × Option (List Byte) :=
  match i with
  | .noteOn key velocity => serveNoteOn key velocity
  | .noteOff key _ => serveNoteOff key
  | .pedal state => servePedal state
  | .bend value => serveBend value
  | .allOff cut => serveAllOff cut
  | .voiceEnable voices direction => serveVoiceEnable voices direction
  | .getVoice voice => serveGetVoice voice
  | .setVoiceSetup b => serveSetVoiceSetup b
  | .setParam index value => serveSetParam index value
  | .getParam index => serveGetParam index
  | .setMorphTime time => serveSetMorphTime time
  | .mapKnob knob param => serveMapKnob knob param
  | .setPickupMode mode => serveSetPickupMode mode
  | .setKnobScan banks offset deadband => serveSetKnobScan banks offset deadband
  | .getKnob knob => serveGetKnob knob
  | .setSwitch switch spec action slot => serveSetSwitch switch spec action slot
  | .setDebounce depth => serveSetDebounce depth
  | .setGroup group conditions latched action slot => serveSetGroup group conditions latched action slot
  | .setLamps mask states => serveSetLamps mask states
  | .setLampBinding lamp binding => serveSetLampBinding lamp binding
  | .setBlink onTime offTime => serveSetBlink onTime offTime
  | .getSwitch switch => serveGetSwitch switch
  | .getPanel part => serveGetPanel part
  | .recall slot => serveRecall slot
  | .store slot name protect => serveStore slot name protect
  | .writePatch slot record => serveWritePatch slot record
  | .readPatch slot => serveReadPatch slot
  | .patchInfo slot => servePatchInfo slot
  | .protect slot setting => serveProtect slot setting
  | .saveSetup => serveSaveSetup
  | .setPowerOnSlot slot => serveSetPowerOnSlot slot
  | .memoryStatus => serveMemoryStatus
  | .tuneStart scope depth force save disableFailed => serveTuneStart scope depth force save disableFailed
  | .tuneAbort => serveTuneAbort
  | .setReference value => serveSetReference value
  | .setTuneDefaults b => serveSetTuneDefaults b
  | .getTuning oscillator => serveGetTuning oscillator
  | .saveTuning => serveSaveTuning
  | .linkStats => serveLinkStats
  | .getStatus => serveGetStatus
  | .setReportMask flags => serveSetReportMask flags
  | .restart => serveRestart
  | .powerOn => fun s => (s, none)
  | .resetAssert _ => fun s => (s, none)
  | .resetRelease => fun s => (s, none)
  | .tick _ => fun s => (s, none)
  | .morphEnd _ => fun s => (s, none)
  | .gapExpiry _ => fun s => (s, none)
  | .triggerExpiry _ => fun s => (s, none)
  | .releaseEnd _ => fun s => (s, none)
  | .blinkPhaseChange => fun s => (s, none)
  | .waitLimitExpiry => fun s => (s, none)
  | .settleExpiry _ => fun s => (s, none)
  | .firstEdgeTimeout _ => fun s => (s, none)
  | .countingTimeout _ _ => fun s => (s, none)
  | .tapEdge _ _ _ => fun s => (s, none)
  | .slotCompletion => fun s => (s, none)
  | .knobSettleEnd => fun s => (s, none)
  | .knobConversionComplete _ => fun s => (s, none)
  | .supplyConversionComplete _ => fun s => (s, none)
  | .rowStepEnd _ => fun s => (s, none)
  | .tagExamineComplete => fun s => (s, none)
  | .headingReadComplete => fun s => (s, none)
  | .eraseComplete => fun s => (s, none)
  | .programComplete _ => fun s => (s, none)
  | .recallComplete => fun s => (s, none)
  | .storeComplete _ => fun s => (s, none)
  | .patchWriteComplete _ => fun s => (s, none)
  | .patchReadComplete => fun s => (s, none)
  | .patchInfoComplete => fun s => (s, none)
  | .protectComplete _ => fun s => (s, none)
  | .tuningSaveComplete _ => fun s => (s, none)
  | .setupSaveComplete _ => fun s => (s, none)
  | .setupLoadComplete => fun s => (s, none)
  | .tuningLoadComplete => fun s => (s, none)
  | .slotLoadComplete => fun s => (s, none)
  | .receiveByte _ => fun s => (s, none)
  | .framingError => fun s => (s, none)
  | .lineBreak => fun s => (s, none)
  | .gapTimeout => fun s => (s, none)
  | .huntEnd => fun s => (s, none)
  | .badKind _ => fun s => (s, none)
  | .txFrameEnd => fun s => (s, none)
  | .powerLoss _ => fun s => (s, none)
  | .hstbRise => fun s => (s, none)

/-- A frame that has passed its check is dispatched by its kind: unknown kind, wrong length, owning block (R175). -/
def dispatch (kind : Byte) (body : List Byte) (s : State) : State :=
  match bodyLength kind with
  | none => takeFrame false kind (fun s => (s, answer .badKind)) s
  | some n =>
    if body.length = n then
      match requestOf kind body with
      | some i => takeFrame (isPlay kind) kind (serveRequest i) s
      | none => s
    else takeFrame (isPlay kind) kind (fun s => (s, answer .badLength)) s

/-- A frame is in assembly (R173). -/
def RxState.inFrame : RxState → Bool
  | .length | .kind | .body | .check => true
  | .idle | .hunt => false

def setReceiver (rx : Receiver) (s : State) : State := { s with link := { s.link with rx } }

/-- A fault ends the frame in assembly: it is discarded and counted, its flag is set (R173). -/
def discardFrame (after : RxState) (flag : LinkFlags → LinkFlags) (s : State) : State :=
  { s with link := countDiscarded { s.link with rx := { Receiver.idle with state := after }, flags := flag s.link.flags } }

/-- The receiver after a byte that goes on with the frame (R172). -/
def assemble (b : Byte) (rx : Receiver) : Receiver :=
  let crc := crcByte rx.crc b
  match rx.state with
  | .length => { rx with state := .kind, length := b.toNat, crc := crc }
  | .kind => { rx with state := if rx.length = 0 then .check else .body, kind := b, crc := crc }
  | _ => { rx with state := if rx.length ≤ rx.body.length + 1 then .check else .body, body := rx.body ++ [b], crc := crc }

/-- A good byte handled by the receiver's state (R172, R173). -/
def receiveByte (b : Byte) (s : State) : State :=
  let rx := s.link.rx
  match rx.state with
  | .idle => if b = 0xC5 then setReceiver { Receiver.idle with state := .length } s else s
  | .length =>
    if 124 < b.toNat then discardFrame .hunt (fun f => { f with overlong := true }) s else setReceiver (assemble b rx) s
  | .kind => setReceiver (assemble b rx) s
  | .body => setReceiver (assemble b rx) s
  | .check =>
    if b = rx.crc then dispatch rx.kind rx.body s else discardFrame .idle (fun f => { f with crcError := true }) s
  | .hunt => s

/-- RECEIVE_BYTE (R172). -/
def execReceiveByte (b : Byte) (s : State) : Host.Outcome State Fault Refusal :=
  .next (whenRunning (receiveByte b) s)

/-- FRAMING_ERROR (R173). -/
def execFramingError (s : State) : Host.Outcome State Fault Refusal :=
  .next (whenRunning (fun s =>
    if s.link.rx.state.inFrame then discardFrame .hunt (fun f => { f with byteError := true }) s
    else
      { s with link := { s.link with
          rx := { Receiver.idle with state := .hunt }, flags := { s.link.flags with byteError := true } } }) s)

/-- BREAK (R171, R173): in HUNT it ends the hunt, in IDLE it changes nothing. -/
def execLineBreak (s : State) : Host.Outcome State Fault Refusal :=
  .next (whenRunning (fun s =>
    if s.link.rx.state.inFrame then discardFrame .idle (fun f => { f with cut := true }) s
    else if s.link.rx.state = .hunt then setReceiver Receiver.idle s
    else s) s)

/-- GAP_TIMEOUT (R173). -/
def execGapTimeout (s : State) : Host.Outcome State Fault Refusal :=
  .next (whenRunning (fun s =>
    if s.link.rx.state.inFrame then discardFrame .idle (fun f => { f with timeout := true }) s else s) s)

/-- HUNT_END (R173). -/
def execHuntEnd (s : State) : Host.Outcome State Fault Refusal :=
  .next (whenRunning (fun s => if s.link.rx.state = .hunt then setReceiver Receiver.idle s else s) s)

/-- BAD_KIND (R175): a sound frame whose kind names no request and no play message is answered BAD_KIND. A kind that does
name one is no such frame, and changes nothing here (log entry 14). -/
def execBadKind (kind : Byte) (s : State) : Host.Outcome State Fault Refusal :=
  .next (whenRunning (fun s =>
    if (bodyLength kind).isSome then s else takeFrame false kind (fun s => (s, answer .badKind)) s) s)

/-- TX_FRAME_END (R181): the transmitter begins the next frame, or rests. -/
def execTxFrameEnd (s : State) : Host.Outcome State Fault Refusal :=
  .next (whenRunning (fun s => if s.link.tx.isSome then { s with link := beginFrame s.link } else s) s)

end Sys2Proof.Machine
end

