-- ==== Sys2Proof/Machine/Resets.lean ====
section
/-! DEFINITION. Power and the RESET pin (R75, R90, R108, R111, R125, R133, R145, R146, R169, R170). -/

namespace Sys2Proof.Machine

/-- Every item takes its listed value, the part standing at the start of its start-up load over the store `st`; the
voltages of the external hold cells and the commands that wait are kept (R75, R130, R133, R146). The converter takes slot 0's first
code, 27305 (R75), with the other items, already while the part stands still (DESIGN CHOICE, log entry 43: R66 has it keep its code
until the next slot begins, and R64 lists no reset value for it). -/
def coldState (powered resetLow : Bool) (st : Store) (s : State) : State :=
  { State.reset with
    powered := powered
    resetLow := resetLow
    refresh := { Refresh.initial with cells := s.refresh.cells }
    memory := Memory.initial st
    pending := s.pending }

/-- POWER_ON (R146): the start-up load begins; with the RESET pin low the part waits for its release (log entry 23). -/
def execPowerOn (s : State) : Host.Outcome State Fault Refusal :=
  .next (coldState true s.resetLow (cutStore false s.memory) s)

/-- RESET_ASSERT (R133): an operation in flight ends at once, every item takes its listed value, and the part stands still
until the release (log entry 3). -/
def execResetAssert (half : Bool) (s : State) : Host.Outcome State Fault Refusal :=
  .next (coldState s.powered true (cutStore half s.memory) s)

/-- RESET_RELEASE (R146): with the supply up, the start-up load begins. A pin that is not low is not released. -/
def execResetRelease (s : State) : Host.Outcome State Fault Refusal :=
  .next (if s.resetLow then coldState s.powered false s.memory.store s else s)

/-- POWER_LOSS (R133): an operation in flight ends at once, and the part stands still until POWER_ON (log entry 24). -/
def execPowerLoss (half : Bool) (s : State) : Host.Outcome State Fault Refusal :=
  .next (coldState false s.resetLow (cutStore half s.memory) s)

end Sys2Proof.Machine
end

