-- ==== Sys2Proof/Machine/Engine.lean ====
section
/-! DEFINITION. The Control-Voltage Engine: the code of every output channel (R45 to R60) and the glide advance (R61). -/

namespace Sys2Proof.Machine

/-- fineA and fineB: (v − 2048) / 8, truncated (R48). -/
def fineOffset (v : Nat) : Int := Int.tdiv ((v : Int) - 2048) 8

/-- The interval of oscillator B in semitones (R49). -/
def intervalSemitones (v2 : Nat) : Int := ((v2 * 49 / 4096 : Nat) : Int) - 24

/-- The spread of stack position `j` under stack size `stack` (R50). -/
def spreadOffset (j stack v9 : Nat) : Int := Int.tdiv ((2 * (j : Int) - ((stack : Int) - 1)) * (v9 : Int)) 256

/-- `x` / 32 rounded half away from zero. -/
def roundHalfAway32 (x : Int) : Int := if 0 ≤ x then (x + 16) / 32 else -((-x + 16) / 32)

/-- The bend offset (R51). -/
def bendOffset (bend : Int) (range : Nat) : Int := roundHalfAway32 (bend * (range : Int))

/-- The base pitch (R47): G, or the pitch of key 60 while G is absent. -/
def basePitch (x : Voice) : Int := (x.glide.getD 15360 : Nat)

/-- The unclamped pitch of oscillator A, or of oscillator B, of voice `v` (R52). -/
def rawPitch (s : State) (v : Fin 8) (isB : Bool) : Int :=
  let x := s.voice v
  let shared := basePitch x + spreadOffset x.stackPos s.assigner.setup.stack (s.param 9) +
    bendOffset s.assigner.bend s.assigner.setup.bendRange
  if isB then shared + fineOffset (s.param 1) + intervalSemitones (s.param 2) * 256 else shared + fineOffset (s.param 0)

/-- The segment of the voltage map for a pitch (R54). -/
def segmentOf (pitch : Int) : Nat := (clampInt 0 6 ((pitch - 6144) / 3072)).toNat

/-- The unclamped code of a clamped pitch over the entries `e` (R54, R55). -/
def mapCode (e : Fin 8 → Nat) (pitch : Int) : Int :=
  let k := segmentOf pitch
  let f := pitch - 6144 - 3072 * (k : Int)
  let lower : Int := e (Fin.ofNat 8 k)
  let upper : Int := e (Fin.ofNat 8 (k + 1))
  lower + ((upper - lower) * f + 1536) / 3072

/-- A code clamped to 0..65535, and whether it had to be. -/
def clampCode (x : Int) : Nat × Bool := ((clampInt 0 65535 x).toNat, decide (x < 0 ∨ 65535 < x))

/-- The pitch path (R47 to R55): the code, whether the pitch was clamped, whether the code was. -/
def pitchPath (s : State) (v : Fin 8) (isB : Bool) : Nat × Bool × Bool :=
  let p := rawPitch s v isB
  let osc := if isB then oscB v else oscA v
  let c := clampCode (mapCode (fun k => s.tune.table[osc][k].entry) (clampInt 0 32767 p))
  (c.1, decide (p < 0 ∨ 32767 < p), c.2)

/-- The unclamped cutoff of voice `v` (R58). -/
def rawCutoff (s : State) (v : Fin 8) : Int :=
  let x := s.voice v
  (s.param 4 : Int) * 16 + (basePitch x - 15360) * (s.param 5 : Int) / 2048 + ((x.velocity * s.param 6 / 127 : Nat) : Int)

/-- The level code of voice `v` (R59). -/
def levelCode (s : State) (v : Fin 8) : Nat :=
  let x := s.voice v
  if x.state = .tuning ∨ x.state = .off then 0 else 65535 - (127 - x.velocity) * s.param 7 * 16 / 127

/-- The global code of a parameter value (R60). -/
def globalCode (v : Nat) : Nat := v * 16 + v / 256

/-- The voice a slot serves (R65). -/
def slotVoice (slot : Fin 48) : Fin 8 := ⟨slot.val / 6, by omega⟩

/-- The global output of slot 6v + 4 or 6v + 5 reads parameter 16 + 2v or 17 + 2v (R60, R65). -/
def globalParam (slot : Fin 48) : Fin 64 := ⟨16 + 2 * (slot.val / 6) + (slot.val % 6 - 4), by omega⟩

/-- Load a code into the DAC at the start of a slot (R66): LOAD, carried override as given, stale no. -/
def loadSlot (code : Nat) (carried : Bool) (s : State) : State :=
  { s with refresh := { s.refresh with phase := .load, dac := code, carried := carried, stale := false } }

/-- The pitch slot of one oscillator: its override code while its voice is TUNING and the override is valid, else the
pitch path; the clamp mark and the clamp note of the channel follow (R52, R56, R57, R66). -/
def startPitchSlot (v : Fin 8) (isB : Bool) (s : State) : State :=
  let osc := if isB then oscB v else oscA v
  let o := s.refresh.overrides[osc]
  if (s.voice v).state = .tuning ∧ o.valid = true then
    modVoice v (fun x => if isB then { x with pitchBClamped := false, noteB := false } else { x with pitchAClamped := false, noteA := false })
      (modOverride osc (fun o => { o with loadPending := false }) (loadSlot o.code true s))
  else
    let r := pitchPath s v isB
    modVoice v (fun x => if isB then { x with pitchBClamped := r.2.1, noteB := r.2.2 } else { x with pitchAClamped := r.2.1, noteA := r.2.2 })
      (loadSlot r.1 false s)

/-- The start of the slot at the slot position (R46, R66). -/
def startSlot (s : State) : State :=
  let slot := s.refresh.slot
  let v := slotVoice slot
  match slot.val % 6 with
  | 0 => startPitchSlot v false s
  | 1 => startPitchSlot v true s
  | 2 =>
    let c := clampCode (rawCutoff s v)
    modVoice v (fun x => { x with noteCutoff := c.2 }) (loadSlot c.1 false s)
  | 3 => loadSlot (levelCode s v) false s
  | _ => loadSlot (globalCode (s.param (globalParam slot))) false s

/-- The glide step in pu for a value of parameter 3 (R61). -/
def glideRate (v3 : Nat) : Nat := 32768 / (v3 + 1)

/-- One glide step from `g` toward `target` (R61). -/
def glideStep (r g target : Nat) : Nat :=
  if g < target then min (g + r) target else if target < g then max (g - r) target else g

/-- The glide advance of one voice record (R61). -/
def glideVoice (r : Nat) (x : Voice) : Voice :=
  match x.glide, x.glideTarget with
  | some g, some t => { x with glide := some (glideStep r g t) }
  | _, _ => x

end Sys2Proof.Machine
end

