-- ==== Sys2Proof/Machine/Sequencer.lean ====
section
/-! DEFINITION. The events of the Output Refresh Sequencer (R67 to R71) and what they tell the Voice Table (R8) and the
Tune Unit (R71). -/

namespace Sys2Proof.Machine

/-- The gate of a voice goes HIGH and its trigger pulse starts (R10). -/
def raiseGate (w : Nat) (x : Voice) : Voice := { x with gate := .high, trigger := w, trigPin := true }

/-- A voice record at the completion of its pitch slot that was not stale (R8, R70). -/
def refreshMark (isB : Bool) (w : Nat) (x : Voice) : Voice :=
  let y := if isB then { x with refreshedB := true } else { x with refreshedA := true }
  if y.gate = .armed ∧ y.refreshedA = true ∧ y.refreshedB = true then raiseGate w y else y

/-- The slot in progress is a pitch slot (R65). -/
def isPitchSlot (r : Refresh) : Bool := decide (r.slot.val % 6 < 2)

/-- The oscillator of a pitch slot (R65). -/
def slotOscillator (slot : Fin 48) : Fin 16 := ⟨2 * (slot.val / 6) + min (slot.val % 6) 1, by omega⟩

/-- The completing slot delivered the current override of its oscillator (R71). -/
def deliveredOverride (r : Refresh) : Bool :=
  r.carried && r.overrides[slotOscillator r.slot].valid && !r.overrides[slotOscillator r.slot].loadPending

/-- The announcements of a pitch slot's completion (R70, R71). -/
def announceSlot (s : State) : State :=
  let r := s.refresh
  let s1 :=
    if r.stale then s
    else modVoice (slotVoice r.slot) (refreshMark (decide (r.slot.val % 6 = 1)) s.assigner.setup.width) s
  if deliveredOverride r then overrideDelivered (slotOscillator r.slot) s1 else s1

/-- The addressed cell takes the DAC's code (R67). -/
def captureCell (s : State) : State :=
  { s with refresh := { s.refresh with cells := s.refresh.cells.set s.refresh.slot s.refresh.dac } }

/-- The marks of the slot clear and the slot position advances (R67). -/
def advanceSlot (s : State) : State :=
  { s with refresh := { s.refresh with carried := false, stale := false, slot := s.refresh.slot + 1 } }

/-- SLOT_COMPLETION (R67): the cell keeps its voltage, a pitch slot is announced, the marks clear and the next slot begins. -/
def execSlotCompletion (s : State) : Host.Outcome State Fault Refusal :=
  .next (whenRunning (fun s =>
    let s1 := captureCell s
    startSlot (advanceSlot (if isPitchSlot s1.refresh then announceSlot s1 else s1))) s)

/-- While the part runs and no command waits, the DAC output of a slot in LOAD begins to move: its phase becomes SETTLE (R66, R67).
The table has no row for this moment (log entry 11). -/
def settleDac (s : State) : State :=
  if s.refresh.phase = .load then { s with refresh := { s.refresh with phase := .settle } } else s

/-- HSTB_RISE (R67): the addressed cell is connected to the DAC. -/
def execHstbRise (s : State) : Host.Outcome State Fault Refusal :=
  .next (whenRunning (fun s =>
    let s1 := captureCell s
    { s1 with refresh := { s1.refresh with phase := .hold } }) s)

end Sys2Proof.Machine
end

