-- ==== Sys2Proof/Machine/Timers.lean ====
section
/-! DEFINITION. The 1 ms tick (R6, R61, R84, R122, R155, R158) and the expiries of the voice and blink timers (R9, R10, R13,
R122). A timer that has run down to 0 has its expiry event as a command of its own; a morph that arrives ends within the tick
(log entry 6). -/

namespace Sys2Proof.Machine

/-- The three tick timers of a voice lose 1 (R6). -/
def tickVoice (x : Voice) : Voice := { x with gap := x.gap - 1, trigger := x.trigger - 1, release := x.release - 1 }

/-- The timer of a measurement channel loses 1 in the phases that it times (R158, R159). -/
def tickChannel (c : Channel) : Channel :=
  match c.phase with
  | .settle | .firstEdge | .counting => { c with timer := c.timer - 1 }
  | _ => c

/-- The glide advance of every voice (R61) with the value `v3` of parameter 3. -/
def glideAll (v3 : Nat) (t : VoiceTable) : VoiceTable :=
  { t with voices := tab fun v => glideVoice (glideRate v3) t.voices[v] }

/-- What a tick does (R6, R61, R84, R122, R155, R158). The glide advance reads parameter 3 as it stands before this tick's morph
step: R61 has a change by a morph act from the next tick. -/
def tickAll (s : State) : State :=
  let table := glideAll (s.param 3) s.table
  { s with
    table := { table with voices := tab fun v => tickVoice table.voices[v] }
    params := stepMorphs s.params
    matrix := { s.matrix with blinkRemaining := s.matrix.blinkRemaining - 1 }
    tune := { s.tune with
      channels := tab fun c => tickChannel s.tune.channels[c]
      job := s.tune.job.map fun j => { j with wait := j.wait - 1 } } }

/-- TICK (R6); `drift` is what the store's bits have done of themselves since the tick before (log entry 9). -/
def execTick (drift : List BlockBits) (s : State) : Host.Outcome State Fault Refusal :=
  .next (whenRunning (fun s =>
    let s1 := tickAll s
    { s1 with memory := { s1.memory with store := driftBlocks drift s1.memory.store } }) s)

/-- A voice record at its gap expiry (R9). -/
def endGap (w : Nat) (x : Voice) : Voice :=
  if x.playing then
    if x.refreshedA && x.refreshedB then raiseGate w x else { x with gate := .armed }
  else { x with gate := .low }

/-- The gap of a voice has run out. -/
def gapDue (v : Fin 8) (s : State) : Bool := decide ((s.voice v).gate = .gap) && decide ((s.voice v).gap = 0)

/-- GAP_EXPIRY (R9). -/
def execGapExpiry (v : Fin 8) (s : State) : Host.Outcome State Fault Refusal :=
  .next (whenRunning (fun s => if gapDue v s then modVoice v (endGap s.assigner.setup.width) s else s) s)

/-- TRIGGER_EXPIRY (R10). -/
def execTriggerExpiry (v : Fin 8) (s : State) : Host.Outcome State Fault Refusal :=
  .next (whenRunning (fun s =>
    if (s.voice v).trigger = 0 then modVoice v (fun x => { x with trigPin := false }) s else s) s)

/-- The release hold of a voice has run out. -/
def releaseDue (v : Fin 8) (s : State) : Bool :=
  decide ((s.voice v).state = .releasing) && decide ((s.voice v).release = 0)

/-- A voice at its release end (R13): TUNING and announced as taken when reserved, otherwise FREE and announced to the
Note Assigner. -/
def endRelease (v : Fin 8) (s : State) : State :=
  if (s.voice v).reserved then voiceTaken v (removeVoice v .tuning s) else releaseEnded v (removeVoice v .free s)

/-- RELEASE_END (R13). -/
def execReleaseEnd (v : Fin 8) (s : State) : Host.Outcome State Fault Refusal :=
  .next (whenRunning (fun s => if releaseDue v s then endRelease v s else s) s)

/-- The blink timer's phase change (R122). -/
def changeBlink (m : Matrix) : Matrix :=
  { m with blinkOn := !m.blinkOn, blinkRemaining := if m.blinkOn then m.offTime else m.onTime }

/-- BLINK_PHASE_CHANGE (R122). -/
def execBlinkPhaseChange (s : State) : Host.Outcome State Fault Refusal :=
  .next (whenRunning (fun s =>
    if s.matrix.blinkRemaining = 0 then { s with matrix := changeBlink s.matrix } else s) s)

end Sys2Proof.Machine
end

