-- ==== Sys2Proof/Machine/Dispatch.lean ====
section
/-! DEFINITION. The meaning of every command: one arm per constructor. -/

namespace Sys2Proof.Machine

/-- The effect of a command on everything but the queue. -/
def exec (i : Instr) (s : State) : Host.Outcome State Fault Refusal :=
  match i with
  | .powerOn => Sys2Proof.Machine.execPowerOn s
  | .resetAssert half => Sys2Proof.Machine.execResetAssert half s
  | .resetRelease => Sys2Proof.Machine.execResetRelease s
  | .tick drift => Sys2Proof.Machine.execTick drift s
  | .morphEnd p => Sys2Proof.Machine.execMorphEnd p s
  | .gapExpiry v => Sys2Proof.Machine.execGapExpiry v s
  | .triggerExpiry v => Sys2Proof.Machine.execTriggerExpiry v s
  | .releaseEnd v => Sys2Proof.Machine.execReleaseEnd v s
  | .blinkPhaseChange => Sys2Proof.Machine.execBlinkPhaseChange s
  | .waitLimitExpiry => Sys2Proof.Machine.execWaitLimitExpiry s
  | .settleExpiry c => Sys2Proof.Machine.execSettleExpiry c s
  | .firstEdgeTimeout c => Sys2Proof.Machine.execFirstEdgeTimeout c s
  | .countingTimeout c clocks => Sys2Proof.Machine.execCountingTimeout c clocks s
  | .tapEdge tap crossing clocks => Sys2Proof.Machine.execTapEdge tap crossing clocks s
  | .slotCompletion => Sys2Proof.Machine.execSlotCompletion s
  | .knobSettleEnd => Sys2Proof.Machine.execKnobSettleEnd s
  | .knobConversionComplete adc => Sys2Proof.Machine.execKnobConversionComplete adc s
  | .supplyConversionComplete adc => Sys2Proof.Machine.execSupplyConversionComplete adc s
  | .rowStepEnd columns => Sys2Proof.Machine.execRowStepEnd columns s
  | .tagExamineComplete => Sys2Proof.Machine.execTagExamineComplete s
  | .headingReadComplete => Sys2Proof.Machine.execHeadingReadComplete s
  | .eraseComplete => Sys2Proof.Machine.execEraseComplete s
  | .programComplete errors => Sys2Proof.Machine.execProgramComplete errors s
  | .recallComplete => Sys2Proof.Machine.execRecallComplete s
  | .storeComplete mark => Sys2Proof.Machine.execStoreComplete mark s
  | .patchWriteComplete mark => Sys2Proof.Machine.execPatchWriteComplete mark s
  | .patchReadComplete => Sys2Proof.Machine.execPatchReadComplete s
  | .patchInfoComplete => Sys2Proof.Machine.execPatchInfoComplete s
  | .protectComplete mark => Sys2Proof.Machine.execProtectComplete mark s
  | .tuningSaveComplete mark => Sys2Proof.Machine.execTuningSaveComplete mark s
  | .setupSaveComplete mark => Sys2Proof.Machine.execSetupSaveComplete mark s
  | .setupLoadComplete => Sys2Proof.Machine.execSetupLoadComplete s
  | .tuningLoadComplete => Sys2Proof.Machine.execTuningLoadComplete s
  | .slotLoadComplete => Sys2Proof.Machine.execSlotLoadComplete s
  | .receiveByte b => Sys2Proof.Machine.execReceiveByte b s
  | .framingError => Sys2Proof.Machine.execFramingError s
  | .lineBreak => Sys2Proof.Machine.execLineBreak s
  | .gapTimeout => Sys2Proof.Machine.execGapTimeout s
  | .huntEnd => Sys2Proof.Machine.execHuntEnd s
  | .badKind kind => Sys2Proof.Machine.execBadKind kind s
  | .txFrameEnd => Sys2Proof.Machine.execTxFrameEnd s
  | .noteOn key velocity => Sys2Proof.Machine.execNoteOn key velocity s
  | .noteOff key velocity => Sys2Proof.Machine.execNoteOff key velocity s
  | .pedal state => Sys2Proof.Machine.execPedal state s
  | .bend value => Sys2Proof.Machine.execBend value s
  | .allOff cut => Sys2Proof.Machine.execAllOff cut s
  | .voiceEnable voices direction => Sys2Proof.Machine.execVoiceEnable voices direction s
  | .getVoice voice => Sys2Proof.Machine.execGetVoice voice s
  | .setVoiceSetup setup => Sys2Proof.Machine.execSetVoiceSetup setup s
  | .setParam index value => Sys2Proof.Machine.execSetParam index value s
  | .getParam index => Sys2Proof.Machine.execGetParam index s
  | .setMorphTime time => Sys2Proof.Machine.execSetMorphTime time s
  | .mapKnob knob param => Sys2Proof.Machine.execMapKnob knob param s
  | .setPickupMode mode => Sys2Proof.Machine.execSetPickupMode mode s
  | .setKnobScan banks offset deadband => Sys2Proof.Machine.execSetKnobScan banks offset deadband s
  | .getKnob knob => Sys2Proof.Machine.execGetKnob knob s
  | .setSwitch switch spec action slot => Sys2Proof.Machine.execSetSwitch switch spec action slot s
  | .setDebounce depth => Sys2Proof.Machine.execSetDebounce depth s
  | .setGroup group conditions latched action slot => Sys2Proof.Machine.execSetGroup group conditions latched action slot s
  | .setLamps mask states => Sys2Proof.Machine.execSetLamps mask states s
  | .setLampBinding lamp binding => Sys2Proof.Machine.execSetLampBinding lamp binding s
  | .setBlink onTime offTime => Sys2Proof.Machine.execSetBlink onTime offTime s
  | .getSwitch switch => Sys2Proof.Machine.execGetSwitch switch s
  | .getPanel part => Sys2Proof.Machine.execGetPanel part s
  | .recall slot => Sys2Proof.Machine.execRecall slot s
  | .store slot name protect => Sys2Proof.Machine.execStore slot name protect s
  | .writePatch slot record => Sys2Proof.Machine.execWritePatch slot record s
  | .readPatch slot => Sys2Proof.Machine.execReadPatch slot s
  | .patchInfo slot => Sys2Proof.Machine.execPatchInfo slot s
  | .protect slot setting => Sys2Proof.Machine.execProtect slot setting s
  | .saveSetup => Sys2Proof.Machine.execSaveSetup s
  | .setPowerOnSlot slot => Sys2Proof.Machine.execSetPowerOnSlot slot s
  | .memoryStatus => Sys2Proof.Machine.execMemoryStatus s
  | .tuneStart scope depth force save disableFailed => Sys2Proof.Machine.execTuneStart scope depth force save disableFailed s
  | .tuneAbort => Sys2Proof.Machine.execTuneAbort s
  | .setReference value => Sys2Proof.Machine.execSetReference value s
  | .setTuneDefaults defaults => Sys2Proof.Machine.execSetTuneDefaults defaults s
  | .getTuning oscillator => Sys2Proof.Machine.execGetTuning oscillator s
  | .saveTuning => Sys2Proof.Machine.execSaveTuning s
  | .linkStats => Sys2Proof.Machine.execLinkStats s
  | .getStatus => Sys2Proof.Machine.execGetStatus s
  | .setReportMask flags => Sys2Proof.Machine.execSetReportMask flags s
  | .restart => Sys2Proof.Machine.execRestart s
  | .powerLoss half => Sys2Proof.Machine.execPowerLoss half s
  | .hstbRise => Sys2Proof.Machine.execHstbRise s

end Sys2Proof.Machine
end

