-- ==== Sys2Proof/Safety.lean ====
section
/-! DEFINITION. What a claim about the whole part speaks of: a safe step, and the invariants that the manual's sentences give
the state. Each invariant is a plain condition on a state; none of them says that a run reaches the state. -/

namespace Sys2Proof.Machine

/-- A step that ends in a next state. -/
def Completes (o : Host.Outcome State Fault Refusal) : Prop := ∃ t, o = .next t

/-- Every step of a run of `n` steps from `s` ends in a next state. -/
def SafeRun (n : Nat) (s : State) : Prop := Completes (Sys2Proof.core.run n s)

/-- A condition that every step keeps. -/
def KeptByStep (inv : State → Prop) : Prop := ∀ s t, inv s → step s = .next t → inv t

/-- The store is in its canonical form: addresses strictly rising, no erased byte listed, no empty error mask listed. -/
abbrev StoreCanonical (s : State) : Prop := s.memory.wf = true

/-- One voice record agrees with R2, R5 and R8: its enable flag is clear exactly in OFF; its gate is ARMED only while it is
SOUNDING or SUSTAINED, and HIGH only then and with both pitch channels refreshed since its note start. -/
abbrev Voice.Consistent (x : Voice) : Prop :=
  (x.enabled = false ↔ x.state = .off) ∧ (x.gate = .armed → x.playing = true) ∧
    (x.gate = .high → x.playing = true ∧ x.refreshedA = true ∧ x.refreshedB = true)

abbrev VoicesConsistent (s : State) : Prop := ∀ v, (s.voice v).Consistent

/-- The start order list holds the eight voice indices once each (R3). -/
abbrev StartOrderWhole (s : State) : Prop := s.table.startOrder.Nodup ∧ ∀ v, v ∈ s.table.startOrder

/-- The release order list holds the RELEASING voices, each once (R4). -/
abbrev ReleaseOrderExact (s : State) : Prop :=
  s.table.releaseOrder.Nodup ∧ ∀ v, v ∈ s.table.releaseOrder ↔ (s.voice v).state = .releasing

/-- At most 32 keys are held and at most 16 wait, none twice, and every waiting key is held (R20, R21). -/
abbrev KeyListsConsistent (s : State) : Prop :=
  s.assigner.keyList.length ≤ 32 ∧ (heldKeys s).Nodup ∧ s.assigner.waiting.length ≤ 16 ∧ s.assigner.waiting.Nodup ∧
    ∀ k ∈ s.assigner.waiting, k ∈ heldKeys s

/-- The MONO stack stands as R35 to R37 form and move it: it holds no voice twice, each of its voices SOUNDS the mono key, and the
mono key is held; in POLY there is neither (R43). -/
def MonoStackSounds (s : State) : Prop :=
  (s.assigner.setup.mode = .poly → s.assigner.monoKey = none ∧ s.assigner.monoStack = []) ∧ s.assigner.monoStack.Nodup ∧
    (∀ k, s.assigner.monoKey = some k → k ∈ heldKeys s) ∧
    ∀ v ∈ s.assigner.monoStack, (s.voice v).state = .sounding ∧ (s.voice v).key = s.assigner.monoKey

/-- One parameter record agrees with R77: value and target in 0..4095, equal while no morph runs, and during a morph the
value between its start value and its target. -/
def Param.InRange (r : Param) : Prop :=
  r.value ≤ 4095 ∧ r.target ≤ 4095 ∧
    match r.morph with
    | none => r.value = r.target
    | some m => m.start ≤ 4095 ∧ min m.start r.target ≤ r.value ∧ r.value ≤ max m.start r.target

/-- Every parameter record agrees with R77, and every knob's filtered and reported value lies in 0..4095 (R92). -/
def ParamsInRange (s : State) : Prop :=
  (∀ p : Fin 64, s.params.records[p].InRange) ∧
    ∀ k : Fin 48, s.scanner.knobs[k].filtered ≤ 4095 ∧ s.scanner.knobs[k].reported ≤ 4095

/-- The morphs agree with their length (R77): every morphing record has taken fewer ticks than the morph length, which lies in
1..2000 and is present exactly while a record morphs. -/
def MorphsTimed (s : State) : Prop :=
  (∀ (p : Fin 64) (m : Morph), s.params.records[p].morph = some m →
      ∃ len, s.params.morphLength = some len ∧ m.elapsed < len ∧ len ≤ 2000) ∧
    (s.params.morphLength ≠ none → ∃ p : Fin 64, s.params.records[p].morph ≠ none)

/-- No parameter is mapped from more than one knob (R98). -/
abbrev MappingUnique (s : State) : Prop :=
  ∀ i j : Fin 48, s.scanner.knobs[i].mapping ≠ none → s.scanner.knobs[i].mapping = s.scanner.knobs[j].mapping → i = j

/-- The reply queue holds at most 8 replies and the report queue at most 96 items, never two PARAM_CHANGED items for one
parameter nor two KNOB_MOVED items for one knob (R176, R177, R178). -/
abbrev QueuesBounded (s : State) : Prop :=
  s.link.replies.length ≤ 8 ∧ s.link.reports.length ≤ 96 ∧ s.link.reports.Pairwise fun a b => sameItem a b = false

/-- The voice setup in effect is in range (R22, R41). -/
abbrev VoiceSetup.InRange (x : VoiceSetup) : Prop :=
  (x.stack = 1 ∨ x.stack = 2 ∨ x.stack = 4 ∨ x.stack = 8) ∧ x.bendRange ≤ 24 ∧ x.gap ≤ 8 ∧ 1 ≤ x.width ∧ x.width ≤ 8

/-- Scan settings in range (R92, R104). -/
abbrev ScanSettings.InRange (x : ScanSettings) : Prop := -64 ≤ x.offset ∧ x.offset ≤ 63 ∧ x.deadband ≤ 255

/-- Every setting a request or a load can change lies in its range: the voice setup (R22), bend (R39), scan settings
(R104), debounce depth (R110), blink times (R122), tuning reference (R149), settle time (R150) and power-on slot (R130). -/
abbrev SettingsInRange (s : State) : Prop :=
  s.assigner.setup.InRange ∧ (-8192 ≤ s.assigner.bend ∧ s.assigner.bend ≤ 8191) ∧
    (s.scanner.inEffect.InRange ∧ s.scanner.requested.InRange) ∧
    (s.matrix.debounce = 1 ∨ s.matrix.debounce = 2 ∨ s.matrix.debounce = 4 ∨ s.matrix.debounce = 8) ∧
    (50 ≤ s.matrix.onTime ∧ s.matrix.onTime ≤ 2000 ∧ 50 ≤ s.matrix.offTime ∧ s.matrix.offTime ≤ 2000) ∧
    (200000 ≤ s.tune.reference ∧ s.tune.reference ≤ 420000) ∧
    (1 ≤ s.tune.defaults.settle ∧ s.tune.defaults.settle ≤ 50) ∧ s.memory.powerOnSlot ≤ 127

/-- An operation acts on what its kind acts on (R130, R132, R144), and only a step recall searches (R140). -/
def MemOp.Fits (op : MemOp) : Prop :=
  (match op.kind with
    | .tuningSave => op.target = .tuningArea
    | .setupSave => op.target = .setupArea
    | .startUpLoad => op.target = .wholeLoad
    | _ => ∃ n, op.target = .slot n) ∧
    ∀ upward first examined, op.phase = .search upward first examined → op.kind = .stepRecall

/-- The operation in flight fits its kind. -/
def OperationFits (s : State) : Prop := ∀ op, s.memory.op = some op → op.Fits

/-- A measurement channel whose search leaves every code it may still try inside 0..65535 (R160). -/
def Channel.CodesInRange (ch : Channel) : Prop :=
  match ch.index with
  | .search i => ch.c + 2 ^ (i + 1) ≤ 65535
  | .confirm => ch.c + 1 ≤ 65535

/-- Every code lies in 0..65535: the tuning entries, the override codes, the codes the searches may still try, the code in
the DAC and the code each hold cell last took (R66, R148, R160). -/
def CodesInRange (s : State) : Prop :=
  (∀ (o : Fin 16) (k : Fin 8), s.tune.table[o][k].entry ≤ 65535) ∧ (∀ o : Fin 16, s.refresh.overrides[o].code ≤ 65535) ∧
    (∀ c : Fin 4, s.tune.channels[c].osc ≠ none → s.tune.channels[c].CodesInRange) ∧ s.refresh.dac ≤ 65535 ∧
    ∀ i : Fin 48, s.refresh.cells[i] ≤ 65535

/-- The transmitter rests only when nothing waits to be sent (R181). -/
abbrev LineServed (s : State) : Prop := s.link.tx = none → s.link.replies = [] ∧ s.link.reports = []

/-! ### The taking of a frame, as a statement writes it -/

/-- The part runs and its start-up load has ended: play messages reach the Note Assigner (R23, R145). -/
abbrev State.serving (s : State) : Prop := s.running = true ∧ s.memory.ready = true

/-- The part serves and its reply queue has room: requests reach their blocks (R145, R176). -/
abbrev State.takes (s : State) : Prop := s.serving ∧ s.link.replies.length < 8

/-- The link after a sound frame has passed its check: the receiver in IDLE, the valid count one more, at most 65535 (R172). -/
def Link.received (l : Link) : Link := { l with rx := Receiver.idle, valid := min 65535 (l.valid + 1) }

/-- The link at the end of an event that may have queued an item: a resting transmitter begins a frame (R181). -/
def Link.sending (l : Link) : Link :=
  match l.tx with
  | some _ => l
  | none => beginFrame l

/-- The state with a sound frame taken and nothing else done. -/
def State.received (s : State) : State := { s with link := s.link.received }

/-- The state after an event that may have queued a report. -/
def State.sending (s : State) : State := { s with link := s.link.sending }

/-- The state with the reply `body` to a frame of kind `kind` queued behind the replies held, and the transmitter served
(R175, R181). -/
def State.answered (kind : Byte) (body : List Byte) (s : State) : State :=
  State.sending { s with link := { s.link with replies := s.link.replies ++ [{ kind := kind ||| 0x80, body }] } }

/-- Nothing but the named parts differs: the fields no play message touches. -/
abbrev SamePlayFrame (s t : State) : Prop :=
  t.powered = s.powered ∧ t.resetLow = s.resetLow ∧ t.params = s.params ∧ t.scanner = s.scanner ∧ t.matrix = s.matrix ∧
    t.memory = s.memory ∧ t.pending = s.pending

/-- The operation that a panel operation starts as, with current slot `current` at its start (R116, R131, R140). -/
def panelStart (current : Option Nat) (p : PanelOp) : MemOp :=
  let op := fun (k : OpKind) (n : Nat) (ph : OpPhase) (time : Nat) =>
    ({ kind := k, target := .slot n, origin := .panel, phase := ph, timeLeft := time, setting := false, image := [] } : MemOp)
  match p with
  | .recall n => op .recall n .read 10
  | .next => let first := current.elim 0 fun c => (c + 1) % 128; op .stepRecall first (.search true first 0) 1
  | .prev => let first := current.elim 0 fun c => (c + 127) % 128; op .stepRecall first (.search false first 0) 1
  | .storeCurrent => op .store (current.getD 0) .heading 1

/-- A voice sounds a key. -/
def Voice.sounds (key : Nat) (x : Voice) : Bool := x.state = .sounding && x.key = some key

/-- A voice in play: it holds a key. -/
def Voice.inPlay (x : Voice) : Bool := x.state = .sounding || x.state = .sustained || x.state = .releasing

/-- The record of a voice that a key release with the pedal up sends to RELEASING while parameter 8 holds `v8` (R12). -/
def Voice.released (v8 : Nat) (x : Voice) : Voice :=
  { x with state := .releasing, gate := if x.gate = .gap then .gap else .low, release := 5 + 2 * v8 }

/-- The record of a voice cut to `dest`, its reserved mark apart (R14). -/
def Voice.cutTo (dest : VoiceState) (x : Voice) : Voice :=
  { x with state := dest, key := none, gate := if x.gate = .gap then .gap else .low, release := 0 }

/-! ### A note start, the choosing chain and a reassignment, as a statement writes them -/

/-- The glide position of a voice after a start or change to `key`, where `held` were the keys held before the event (R29). -/
def Voice.glided (setup : VoiceSetup) (held : List Nat) (key : Nat) (x : Voice) : Option Nat :=
  if x.glide = none ∨ setup.glide = .off ∨ (setup.glide = .legato ∧ ∀ h ∈ held, h = key) then some (key * 256) else x.glide

/-- The record of a voice after a note start for `key` at stack position `pos` (R7, R29). -/
def Voice.started (setup : VoiceSetup) (held : List Nat) (key velocity pos : Nat) (x : Voice) : Voice :=
  { x with
    state := .sounding, key := some key, lastKey := some key, velocity := velocity, stackPos := pos
    glideTarget := some (key * 256), glide := x.glided setup held key
    release := if x.state = .releasing then 0 else x.release
    refreshedA := false, refreshedB := false
    gate := if x.gate = .gap ∨ (x.gate = .high ∧ 0 < setup.gap) then .gap else .armed
    gap := if (x.gate = .gap ∨ x.gate = .high) ∧ 0 < setup.gap then setup.gap else x.gap }

/-- The rotate pointer after the voices `used` were taken: ROTATE moves it past a FREE voice, and nothing else does (R26). -/
def rotatePast (s : State) (used : List (Fin 8)) : Fin 8 :=
  if s.assigner.setup.assign = .rotate then
    ((used.filter fun v => decide ((s.voice v).state = .free)).getLast?).elim s.table.rotate (· + 1)
  else s.table.rotate

/-- The voices the chain offers for `key`, best first, where the voices `used` were already started for it and `top` is the
highest key held (R25 to R27): restrike, FREE by the assign policy, RELEASING, SUSTAINED, steal. -/
def chainOrder (s : State) (top : Option Nat) (keepTop : Bool) (key : Nat) (used : List (Fin 8)) : List (Fin 8) :=
  let pick := fun (l : List (Fin 8)) (p : Voice → Bool) =>
    l.filter fun v => decide (v ∉ used) && ((s.voice v).available && p (s.voice v))
  let start := s.table.startOrder
  let free := fun x : Voice => decide (x.state = .free)
  let others := pick start fun x => decide (x.state = .sounding ∧ x.key ≠ some key)
  let spared := others.filter fun v => decide ((s.voice v).key ≠ top)
  let victims := if keepTop = true ∧ spared ≠ [] then spared else others
  pick start (fun x => decide ((x.state = .sustained ∨ x.state = .releasing) ∧ x.key = some key)) ++
    (match s.assigner.setup.assign with
      | .rotate => pick ((List.finRange 8).map fun i => rotatePast s used + i) free
      | .reuse => pick start (fun x => decide (x.state = .free ∧ x.lastKey = some key)) ++ pick start free
      | .lowest => pick (List.finRange 8) free) ++
    pick s.table.releaseOrder (fun x => decide (x.state = .releasing)) ++
    pick start (fun x => decide (x.state = .sustained)) ++
    (match s.assigner.setup.steal with
      | .oldest => victims
      | .quietest => victims.filter fun v => victims.all fun u => decide ((s.voice v).velocity ≤ (s.voice u).velocity))

/-- The refresh state after note starts on `vs`: one on the voice whose pitch slot is in progress sets the stale mark (R69). -/
def Refresh.restarted (vs : List (Fin 8)) (r : Refresh) : Refresh :=
  { r with stale := r.stale || vs.any fun v => decide (r.slot.val = 6 * v.val ∨ r.slot.val = 6 * v.val + 1) }

/-- The Voice Table after note starts for `key` on `vs` in turn, at stack positions 0, 1, 2 and on (R3, R4, R7, R26). -/
def VoiceTable.startedOn (s : State) (held : List Nat) (key velocity : Nat) (vs : List (Fin 8)) : VoiceTable :=
  { voices := tab fun v =>
      if v ∈ vs then (s.voice v).started s.assigner.setup held key velocity (vs.idxOf v) else s.voice v
    startOrder := s.table.startOrder.filter (fun v => decide (v ∉ vs)) ++ vs
    releaseOrder := s.table.releaseOrder.filter fun v => decide (v ∉ vs)
    rotate := rotatePast s vs }

/-- The chain takes the voices `vs` for `key` in turn and no other: each is the first that it offers, and it stops at the stack
size or where it offers none (R24, R25, R28). -/
def TakenByChain (s : State) (keepTop : Bool) (key : Nat) (vs : List (Fin 8)) : Prop :=
  vs.Nodup ∧ vs.length ≤ s.assigner.setup.stack ∧
    (∀ (i : Nat) (v : Fin 8), vs[i]? = some v →
      (chainOrder s (heldKeys s).max? keepTop key (vs.take i)).head? = some v) ∧
    (vs.length < s.assigner.setup.stack → chainOrder s (heldKeys s).max? keepTop key vs = [])

/-- The state in which steps 1 and 2 of a reassignment to the setup `new` leave the part: every voice in play but for the
RELEASING ones is released, ascending, with the hold of parameter 8 at that moment; every voice set, the mono stack and the
waiting list stand empty (R43). -/
def State.letGo (new : VoiceSetup) (s : State) : State :=
  { s with
    assigner := { s.assigner with
      setup := new, monoKey := none, monoStack := [], waiting := []
      keyList := s.assigner.keyList.map fun e => { e with voices := [] } }
    table := { s.table with
      releaseOrder := s.table.releaseOrder ++
        (List.finRange 8).filter fun v => decide ((s.voice v).state = .sounding ∨ (s.voice v).state = .sustained)
      voices := tab fun v =>
        if (s.voice v).state = .sounding ∨ (s.voice v).state = .sustained then (s.voice v).released (s.param 8) else s.voice v } }

/-- One held key is voiced in step 3 of a POLY reassignment: `t` is `s` with the chain's voices started for the entry `e`. A stolen
voice leaves the voice set of its key; a key so left without a voice, and then `e`'s own key where it gets none, joins the waiting
list when returning is on, and the last 16 wait (R21, R28, R43). That `e`'s key joins here is the model's order (log entry 39). -/
def KeyRevoiced (held : List Nat) (e : KeyEntry) (s t : State) : Prop :=
  let setup := s.assigner.setup
  ∃ vs, TakenByChain s setup.keepTop e.key vs ∧
    let robbed := (List.range vs.length).filterMap fun i =>
      (s.assigner.keyList.find? fun f =>
        decide ((∀ v ∈ f.voices, v ∈ vs.take (i + 1)) ∧ ∃ v ∈ f.voices, vs[i]? = some v)).map KeyEntry.key
    let joined := if setup.returning then robbed ++ (if vs = [] then [e.key] else []) else []
    let waiting := s.assigner.waiting ++ joined
    t = { s with
      table := VoiceTable.startedOn s held e.key e.velocity vs
      refresh := s.refresh.restarted vs
      assigner := { s.assigner with
        waiting := waiting.drop (waiting.length - 16)
        keyList := s.assigner.keyList.map fun f =>
          { f with voices := if f.key = e.key then vs else f.voices.filter fun v => decide (v ∉ vs) } } }

/-- The held keys `es` are voiced one after another (step 3 of R43 in POLY). -/
def KeysRevoiced (held : List Nat) : List KeyEntry → State → State → Prop
  | [], s, t => t = s
  | e :: es, s, t => ∃ u, KeyRevoiced held e s u ∧ KeysRevoiced held es u t

/-- The key that the mono priority selects (R35). -/
def prioritised (setup : VoiceSetup) (keys : List Nat) : Option Nat :=
  match setup.priority with
  | .last => keys.getLast?
  | .low => keys.min?
  | .high => keys.max?

/-- A mono stack is formed for the entry `e` in `s`, which has none, and `t` is what it leaves (R35). -/
def StackFormed (held : List Nat) (e : KeyEntry) (s t : State) : Prop :=
  ∃ vs, TakenByChain s false e.key vs ∧ t = { s with
    table := VoiceTable.startedOn s held e.key e.velocity vs
    refresh := s.refresh.restarted vs
    assigner := { s.assigner with monoKey := some e.key, monoStack := vs } }

/-- `t` is `s` with the setup `new` in effect and every voicing replaced under it (R43). -/
def Reassigned (new : VoiceSetup) (s t : State) : Prop :=
  let held := heldKeys s
  let u := s.letGo new
  match new.mode with
  | .poly => KeysRevoiced held u.assigner.keyList.reverse u t
  | .mono =>
    match prioritised new held with
    | none => t = u
    | some c => ∃ e ∈ u.assigner.keyList, e.key = c ∧ StackFormed held e u t

/-- `t` is `s` with the voice setup `new` adopted: with a reassignment where its mode or stack size is another (R41, R42). -/
def SetupAdopted (new : VoiceSetup) (s t : State) : Prop :=
  if new.mode = s.assigner.setup.mode ∧ new.stack = s.assigner.setup.stack then
    t = { s with assigner := { s.assigner with setup := new } }
  else Reassigned new s t

/-! ### Voices lost, returned to service and taken by the Tune Unit, as a statement writes them -/

/-- A key joins the newest end of the waiting list, once; with 16 waiting the oldest is dropped first (R21). -/
def waitsNewest (waiting : List Nat) (key : Nat) : List Nat :=
  if key ∈ waiting then waiting else waiting.drop (waiting.length - 15) ++ [key]

/-- The Note Assigner after the voices `vs` of `s` were cut in turn by a tune take, the wait limit or VOICE_ENABLE off (R34, R37):
in POLY a SOUNDING one leaves the voice set of its key, and a key whose last voice it was waits; in MONO it leaves the stack. -/
def State.bereft (vs : List (Fin 8)) (s : State) : Assigner :=
  match s.assigner.setup.mode with
  | .mono => { s.assigner with
      monoStack := s.assigner.monoStack.filter fun v => !(decide (v ∈ vs) && decide ((s.voice v).state = .sounding)) }
  | .poly =>
    let lost := fun (k : Nat) (us : List (Fin 8)) (v : Fin 8) => decide (v ∈ us) && (s.voice v).sounds k
    let orphaned := (List.range vs.length).filterMap fun i =>
      (s.assigner.keyList.find? fun e =>
        (vs[i]?.any fun v => (s.voice v).sounds e.key) && e.voices.all (lost e.key (vs.take (i + 1)))).map KeyEntry.key
    { s.assigner with
      keyList := s.assigner.keyList.map fun e => { e with voices := e.voices.filter fun v => !lost e.key vs v }
      waiting := orphaned.foldl waitsNewest s.assigner.waiting }

/-- The part after the voices `vs`, FREE in `s`, have been announced in turn as returned to service, where `held` were the keys held
before the event (R33, R37): in POLY each starts the newest key that then waits, at stack position 0; in MONO each joins a stack
that is short of S voices, at the lowest position free there. -/
def State.returned (held : List Nat) (vs : List (Fin 8)) (s : State) : State :=
  let setup := s.assigner.setup
  let starts := fun (us : List (Fin 8)) (start : Fin 8 → Voice) =>
    { s.table with
      voices := tab fun v => if v ∈ us then start v else s.voice v
      startOrder := s.table.startOrder.filter (fun v => decide (v ∉ us)) ++ us
      releaseOrder := s.table.releaseOrder.filter fun v => decide (v ∉ us) }
  match setup.mode, s.assigner.monoKey with
  | .poly, _ =>
    let given := vs.zip s.assigner.waiting.reverse
    let us := given.map Prod.fst
    { s with
      table := starts us fun v =>
        ((given.find? fun g => g.1 = v).map fun g => (s.voice v).started setup held g.2 (entryVelocity g.2 s) 0).getD (s.voice v)
      refresh := s.refresh.restarted us
      assigner := { s.assigner with
        waiting := s.assigner.waiting.filter fun k => decide (k ∉ given.map Prod.snd)
        keyList := s.assigner.keyList.map fun e =>
          { e with voices := ((given.find? fun g => g.2 = e.key).map fun g => [g.1]).getD e.voices } } }
  | .mono, none => s
  | .mono, some key =>
    let us := vs.take (setup.stack - s.assigner.monoStack.length)
    let vacant := (List.range 8).filter fun p => s.assigner.monoStack.all fun u => decide ((s.voice u).stackPos ≠ p)
    { s with
      table := starts us fun v => (s.voice v).started setup held key (entryVelocity key s) (vacant.getD (us.idxOf v) 8)
      refresh := s.refresh.restarted us
      assigner := { s.assigner with monoStack := s.assigner.monoStack ++ us } }

/-- The part after the Tune Unit was told that the round voice `v` has become TUNING (R154, R155, R160, R163): its mark is TAKEN, the
wait ends with the last reserved voice, and the channels of its position begin point 0 of its oscillators with their first codes. -/
def State.took (s : State) (v : Fin 8) : State :=
  match s.tune.job with
  | none => s
  | some j =>
    let marks := j.marks.map fun e => if e.1 = v then (v, Mark.taken) else e
    let n := if j.depth = .full then 12 else 8
    let base := fun q : Fin 16 => if j.depth = .full then 10922 else s.tune.table[q][(0 : Fin 8)].entry
    let low := fun q : Fin 16 => min (65535 - 2 ^ n) (base q - 2 ^ (n - 1))
    let code := fun q : Fin 16 => low q + 2 ^ (n - 1)
    { s with
      refresh := { s.refresh with
        overrides := tab fun q =>
          if q.val / 2 = v.val then { code := code q, valid := true, loadPending := true } else s.refresh.overrides[q] }
      tune := { s.tune with
        job := some { j with marks := marks, wait := if ∃ e ∈ marks, e.2 = .reserved then j.wait else 0 }
        channels := tab fun d =>
          if d.val / 2 = (marks.findIdx fun e => e.1 = v) % 2 then
            let q : Fin 16 := ⟨2 * v.val + d.val % 2, by omega⟩
            { phase := .delivery, osc := some q, point := 0, low := low q, trials := n, base := base q
              index := .search (n - 1), c := low q, code := code q, cycle := 0, period := 0, timer := 0 }
          else s.tune.channels[d] } }

/-- The pairs that the enabled voices of a scope form, two by two in ascending index, an odd last one alone (R153). -/
def roundsOf (vs : List (Fin 8)) : List (List (Fin 8)) :=
  (List.range ((vs.length + 1) / 2)).map fun i => (vs.drop (2 * i)).take 2

/-- A take order finds the voice OFF, or TUNING already, and takes nothing: the voice is SKIPPED (R15, R154). -/
def Voice.skipped (x : Voice) : Bool := x.state = .off || x.state = .tuning

/-- The part after the current job has started a round of the voices `vs` (R14, R34, R37, R154, R155): a FREE voice, or with force
any in play, becomes TUNING and is taken; another in play is reserved, and the wait limit runs while one is; an OFF voice is skipped. -/
def State.roundStarted (vs : List (Fin 8)) (s : State) : State :=
  match s.tune.job with
  | none => s
  | some j =>
    let takes := fun v : Fin 8 => !(s.voice v).skipped && (j.force || decide ((s.voice v).state = .free))
    let mark := fun v : Fin 8 => if (s.voice v).skipped then Mark.skipped else if takes v then Mark.pending else Mark.reserved
    let ordered := { s with
      table := { s.table with
        releaseOrder := s.table.releaseOrder.filter fun v => !(decide (v ∈ vs) && takes v)
        voices := tab fun v =>
          if v ∉ vs ∨ (s.voice v).skipped = true then s.voice v
          else if takes v then { (s.voice v).cutTo .tuning with reserved := false }
          else { s.voice v with reserved := true } }
      assigner := s.bereft (vs.filter takes)
      tune := { s.tune with job := some { j with marks := vs.map fun v => (v, mark v), wait := 0 } } }
    let t := (vs.filter takes).foldl State.took ordered
    { t with tune := { t.tune with
      job := t.tune.job.map fun j => { j with wait := if ∃ e ∈ j.marks, e.2 = .reserved then 10000 else 0 } } }

/-- Patch Memory's blocks `marks` stand erased and no other block has changed. -/
def ErasedOnly (marks : List Nat) (s t : Store) : Prop :=
  ∀ b : Nat, (∀ i : Nat, i < 8 → storeByte t b i = if b ∈ marks then 0xFF else storeByte s b i) ∧
    blockErrors t b = if b ∈ marks then 0 else blockErrors s b

end Sys2Proof.Machine
end

