-- ==== Sys2Proof/WellFormed.lean ====
section
/-! DEFINITION. Which commands can be: the ranges that the types of the operands leave open. -/

namespace Sys2Proof

/-- Every named block exists (R127: blocks 0..1887). -/
def blocksExist (es : List BlockBits) : Bool := es.all fun e => decide (e.1 < 1888)

/-- A count of reference clocks that a period counter can take: 0..16,777,215 (R157). -/
def clocksFit (n : Nat) : Bool := decide (n < 2 ^ 24)

/-- A command is well formed. -/
def Instr.wellFormed (i : Instr) : Bool :=
  match i with
  | .tick drift => blocksExist drift
  | .programComplete errors => blocksExist errors
  | .storeComplete mark => blocksExist mark.errors
  | .patchWriteComplete mark => blocksExist mark.errors
  | .protectComplete mark => blocksExist mark.errors
  | .tuningSaveComplete mark => blocksExist mark.errors
  | .setupSaveComplete mark => blocksExist mark.errors
  | .countingTimeout _ clocks => clocksFit clocks
  | .tapEdge _ _ clocks => clocksFit clocks
  | .badKind kind => (Machine.bodyLength kind).isNone
  | .powerOn => true
  | .resetAssert _ => true
  | .resetRelease => true
  | .morphEnd _ => true
  | .gapExpiry _ => true
  | .triggerExpiry _ => true
  | .releaseEnd _ => true
  | .blinkPhaseChange => true
  | .waitLimitExpiry => true
  | .settleExpiry _ => true
  | .firstEdgeTimeout _ => true
  | .slotCompletion => true
  | .knobSettleEnd => true
  | .knobConversionComplete _ => true
  | .supplyConversionComplete _ => true
  | .rowStepEnd _ => true
  | .tagExamineComplete => true
  | .headingReadComplete => true
  | .eraseComplete => true
  | .recallComplete => true
  | .patchReadComplete => true
  | .patchInfoComplete => true
  | .setupLoadComplete => true
  | .tuningLoadComplete => true
  | .slotLoadComplete => true
  | .receiveByte _ => true
  | .framingError => true
  | .lineBreak => true
  | .gapTimeout => true
  | .huntEnd => true
  | .txFrameEnd => true
  | .noteOn _ _ => true
  | .noteOff _ _ => true
  | .pedal _ => true
  | .bend _ => true
  | .allOff _ => true
  | .voiceEnable _ _ => true
  | .getVoice _ => true
  | .setVoiceSetup _ => true
  | .setParam _ _ => true
  | .getParam _ => true
  | .setMorphTime _ => true
  | .mapKnob _ _ => true
  | .setPickupMode _ => true
  | .setKnobScan _ _ _ => true
  | .getKnob _ => true
  | .setSwitch _ _ _ _ => true
  | .setDebounce _ => true
  | .setGroup _ _ _ _ _ => true
  | .setLamps _ _ => true
  | .setLampBinding _ _ => true
  | .setBlink _ _ => true
  | .getSwitch _ => true
  | .getPanel _ => true
  | .recall _ => true
  | .store _ _ _ => true
  | .writePatch _ _ => true
  | .readPatch _ => true
  | .patchInfo _ => true
  | .protect _ _ => true
  | .saveSetup => true
  | .setPowerOnSlot _ => true
  | .memoryStatus => true
  | .tuneStart _ _ _ _ _ => true
  | .tuneAbort => true
  | .setReference _ => true
  | .setTuneDefaults _ => true
  | .getTuning _ => true
  | .saveTuning => true
  | .linkStats => true
  | .getStatus => true
  | .setReportMask _ => true
  | .restart => true
  | .powerLoss _ => true
  | .hstbRise => true

end Sys2Proof
end

