-- ==== Sys2Proof/Certificates/Slice0/Obligations.lean ====
section
/-! DEFINITION. The statements. Each docstring names the rules it comes from. A statement about a command first says that the
command completes: `exec` answers the next state that the rules give. -/

open Sys2Proof
open Sys2Proof.Machine

/-! ### The machine -/

/-- A step takes the command at the front of the queue and is its meaning on the state with the queue's rest; on an empty queue
a slot in LOAD goes on to SETTLE while the part runs, and nothing else happens (the model's queue: log entries 11, 13 and 29). -/
def Obligations.StepRunsFront : Prop :=
  (∀ (c : Instr) (rest : List Instr) (s : State), step { s with pending := c :: rest } = exec c { s with pending := rest }) ∧
    ∀ s : State, s.pending = [] → step s = .next
      (if s.running = true ∧ s.refresh.phase = .load then { s with refresh := { s.refresh with phase := .settle } } else s)

/-- No command stops the part, and so no run does: the manual names no event that halts it. -/
def Obligations.NoCommandStops : Prop :=
  (∀ (c : Instr) (s : State), Completes (exec c s)) ∧ ∀ (n : Nat) (s : State), SafeRun n s

/-- The power-on values of the tables of R1, R3 to R5, R19, R22, R64, R77, R92, R110, R130, R147, R150 and R170. The code in the
DAC follows from R63; that the store is erased and the hold cells stand at 0 is the model's choice (log entries 4 and 5). -/
def Obligations.ResetValues : Prop :=
  let r := State.reset
  (r.powered = true ∧ r.resetLow = false ∧ r.pending = []) ∧
    (∀ v : Fin 8, r.voice v =
      { state := .free, enabled := true, reserved := false, key := none, lastKey := none, velocity := 127, stackPos := 0,
        glide := none, glideTarget := none, gate := .low, refreshedA := false, refreshedB := false, trigger := 0,
        trigPin := false, gap := 0, release := 0, pitchAClamped := false, pitchBClamped := false, noteA := false,
        noteB := false, noteCutoff := false }) ∧
    (r.table.startOrder = [0, 1, 2, 3, 4, 5, 6, 7] ∧ r.table.releaseOrder = [] ∧ r.table.rotate = 0) ∧
    r.assigner =
      { keyList := [], waiting := [], pedalDown := false, bend := 0, monoKey := none, monoStack := [],
        setup := { mode := .poly, stack := 1, assign := .rotate, steal := .oldest, keepTop := false, returning := false,
                   priority := .last, retrigger := true, glide := .off, bendRange := 2, gap := 1, width := 2 } } ∧
    (r.refresh.slot = 0 ∧ r.refresh.phase = .load ∧ r.refresh.dac = 27305 ∧ r.refresh.carried = false ∧ r.refresh.stale = false ∧
      (∀ o : Fin 16, r.refresh.overrides[o] = { code := 0, valid := false, loadPending := false }) ∧
      ∀ i : Fin 48, r.refresh.cells[i] = 0) ∧
    (∀ p : Fin 64, r.params.records[p] =
      let v := if p.val < 3 then 2048 else if p.val = 4 then 4095 else 0
      { value := v, target := v, source := .default, morph := none }) ∧
    (r.params.morphTime = 0 ∧ r.params.morphLength = none ∧ r.params.currentSlot = none ∧ r.params.edited = false) ∧
    (∀ k : Fin 48, r.scanner.knobs[k] =
      { raw := 0, filtered := 0, reported := 0, seeded := false, mapping := some ⟨k.val, by omega⟩, pickup := .locked }) ∧
    (r.scanner.inEffect = { banks := 0x3F, offset := 0, deadband := 6 } ∧ r.scanner.requested = r.scanner.inEffect ∧
      r.scanner.mode = .catch ∧ r.scanner.supply = 0 ∧ r.scanner.pos = .settling 0) ∧
    (∀ i : Fin 64, r.matrix.switches[i] =
        { sensed := false, stable := false, candidate := false, count := 0, spec := .none, action := .none } ∧
      r.matrix.lamps[i] = { state := .off, binding := .none } ∧ ∀ g : Fin 4, r.matrix.groups[g].conditions[i] = .ignore) ∧
    (∀ g : Fin 4, r.matrix.groups[g].latched = false ∧ r.matrix.groups[g].action = .none ∧ r.matrix.groups[g].previous = false) ∧
    (r.matrix.debounce = 2 ∧ r.matrix.onTime = 250 ∧ r.matrix.offTime = 250 ∧ r.matrix.blinkOn = true ∧
      r.matrix.blinkRemaining = 250 ∧ r.matrix.row = 0 ∧ r.matrix.priming = true) ∧
    (r.memory.ready = false ∧ r.memory.op.map MemOp.kind = some .startUpLoad ∧ r.memory.op.map MemOp.origin = some .startUp ∧
      r.memory.writeBuffer = none ∧ r.memory.pendingPanel = none ∧ r.memory.pendingTune = false ∧ r.memory.secCount = 0 ∧
      r.memory.lastSec = none ∧ r.memory.lastDed = none ∧ r.memory.powerOnSlot = 0) ∧
    (∀ b i : Nat, storeByte r.memory.store b i = 0xFF ∧ blockErrors r.memory.store b = 0) ∧
    (∀ (o : Fin 16) (k : Fin 8), r.tune.table[o][k] = { entry := 5461 * (k.val + 2), status := .untuned, residual := 0 }) ∧
    (r.tune.reference = 305781 ∧ r.tune.job = none ∧ (∀ c : Fin 4, r.tune.channels[c] = Channel.idle) ∧
      r.tune.defaults =
        { scope := 0xFF, depth := .fine, force := false, save := true, disableFailed := false, settle := 4, hysteresis := true,
          polarity := .rising }) ∧
    r.link =
      { rx := { state := .idle, length := 0, kind := 0, body := [], crc := 0 }, valid := 0, discarded := 0,
        flags := { crcError := false, byteError := false, cut := false, timeout := false, overlong := false, overrun := false },
        replies := [], reports := [], lost := false, mask := 0x7FF, tx := none }

/-- The state after reset meets every invariant that the statements below say a step keeps. -/
def Obligations.ResetMeetsInvariants : Prop :=
  let r := State.reset
  StoreCanonical r ∧ VoicesConsistent r ∧ StartOrderWhole r ∧ ReleaseOrderExact r ∧ KeyListsConsistent r ∧ MonoStackSounds r ∧
    ParamsInRange r ∧ MorphsTimed r ∧ MappingUnique r ∧ QueuesBounded r ∧ SettingsInRange r ∧ OperationFits r ∧ CodesInRange r ∧
    LineServed r

/-- POWER_ON, RESET_ASSERT, RESET_RELEASE and POWER_LOSS (R75, R130, R133, R144, R146): every item takes its listed value, the
start-up load stands at its beginning, and the hold cells, the commands that wait and the store are kept, but for what
`cutStore` says an operation cut short has done to the store. While RESET is held low no row and no lamp is driven, HSTB is low
and KA0..KA2 hold 0 (R75, R108, R111). That the items take their values at RESET_ASSERT already, what POWER_ON does to a powered
part, and that the DAC takes slot 0's first code while the part stands still, are the model's choices (log entries 3, 23, 24 and
43). -/
def Obligations.PowerAndReset : Prop :=
  ∀ s : State,
    let cold := fun (powered low : Bool) (st : Store) => { State.reset with
      powered := powered, resetLow := low, refresh := { Refresh.initial with cells := s.refresh.cells },
      memory := { State.reset.memory with store := st }, pending := s.pending }
    exec .powerOn s = .next (cold true s.resetLow (cutStore false s.memory)) ∧
      (∀ half : Bool, exec (.resetAssert half) s = .next (cold s.powered true (cutStore half s.memory))) ∧
      (s.resetLow = true → exec .resetRelease s = .next (cold s.powered false s.memory.store)) ∧
      (∀ half : Bool, exec (.powerLoss half) s = .next (cold false s.resetLow (cutStore half s.memory))) ∧
      (s.resetLow = true → s.rowDrives = 0 ∧ s.lampColumns = 0 ∧ s.strobe = false ∧ s.knobAddress = 0)

/-- A reset or a power loss cuts a memory operation short (R133): from the start of its erase a slot's operation leaves a slot
that reads EMPTY, or CORRUPT when its tag block was left half-programmed, a PROTECT keeping the other thirteen blocks; and a
tuning or setup save leaves an area whose start-up load ends EMPTY or CORRUPT and loads nothing, so that the defaults stay
(R144). Before that, and for a read, the store is unchanged. Whether the marking blocks are left half-programmed is an operand
of the command (log entry 9); that such a block of an area reads CORRUPT and any other cut area EMPTY where no other block is in
error rests on the model's choice of what the marking blocks then hold (log entry 47). -/
def Obligations.CutSlotReadsEmpty : Prop :=
  ∀ (s : State) (op : MemOp) (half : Bool) (c : Instr),
    StoreCanonical s → s.memory.op = some op → c = .resetAssert half ∨ c = .powerLoss half →
    let begun := op.phase = .erase ∨ op.phase = .program ∨ op.phase = .verify
    ∃ t, exec c s = .next t ∧
      (¬ begun → t.memory.store = s.memory.store) ∧
      (∀ n, begun → op.target = .slot n →
        (readSlot n t.memory).1.outcome = (if half then .corrupt else .empty) ∧
          (op.kind = .protect → ∀ b, b ≠ 14 * n →
            (∀ i : Nat, i < 8 → storeByte t.memory.store b i = storeByte s.memory.store b i) ∧
              blockErrors t.memory.store b = blockErrors s.memory.store b)) ∧
      ∀ (u : State) (l : MemOp), begun → u.running = true → u.memory.store = t.memory.store → u.memory.op = some l →
        let loads := fun (load : Instr) (area : List Nat) (ph : LoadOutcome → OpPhase) (time : Nat) =>
          ∃ w o, exec load u = .next w ∧
            w = { u with
              memory := { u.memory with
                op := some { l with phase := ph o, timeLeft := time }
                secCount := w.memory.secCount, lastSec := w.memory.lastSec, lastDed := w.memory.lastDed }
              link := u.link.sending } ∧
            (o = .empty ∨ o = .corrupt) ∧ (half = true → o = .corrupt) ∧
            (half = false → (∀ b ∈ area, blockErrors s.memory.store b = 0) → o = .empty)
        (op.target = .setupArea → l.phase = .loadSetup →
          loads .setupLoadComplete ((List.range 48).map (1840 + ·)) (fun o => .loadTuning o) 15) ∧
          ∀ setup, op.target = .tuningArea → l.phase = .loadTuning setup →
            loads .tuningLoadComplete ((List.range 48).map (1792 + ·)) (fun o => .loadSlot setup o) 10

/-! ### What every step keeps -/

/-- The store keeps its canonical form (the model's form of R127). -/
def Obligations.StoreStaysCanonical : Prop := KeptByStep StoreCanonical

/-- Every step keeps R2, R5 and R8: a voice's enable flag is clear exactly in OFF; its gate is armed or high only while it is
SOUNDING or SUSTAINED, and high only with both pitch channels refreshed since its note start. -/
def Obligations.GatesStayTrue : Prop := KeptByStep VoicesConsistent

/-- The start order list always holds the eight voice indices once each (R3), and the release order list exactly the RELEASING
voices, each once (R4). -/
def Obligations.VoiceOrdersStayExact : Prop := KeptByStep fun s => StartOrderWhole s ∧ ReleaseOrderExact s

/-- The key list and the waiting list stay within their sizes, hold no key twice, and every waiting key is held (R20, R21). -/
def Obligations.KeyListsStayConsistent : Prop := KeptByStep KeyListsConsistent

/-- Every parameter value and target stays in 0..4095, equal while no morph runs, and a morphing value between its start value
and its target; a morph's elapsed count stays below the morph length, which stands exactly while a record morphs; knob values
stay in 0..4095 (R77, R92); and every code that can reach the DAC, an entry, an override or a hold cell stays in 0..65535 (R66,
R148, R160). -/
def Obligations.ValuesStayInRange : Prop := KeptByStep fun s => ParamsInRange s ∧ MorphsTimed s ∧ CodesInRange s

/-- No parameter comes to be mapped from more than one knob (R98, R107). -/
def Obligations.MappingStaysUnique : Prop := KeptByStep MappingUnique

/-- The reply queue never exceeds 8 nor the report queue 96, coalesced items stay unique (R176 to R178), and the transmitter
rests only when nothing waits to be sent (R181). -/
def Obligations.QueuesStayServed : Prop := KeptByStep fun s => QueuesBounded s ∧ LineServed s

/-- Every setting stays in its range (R22, R39, R104, R110, R122, R130, R149, R150), and the operation in flight fits its kind:
a tuning save acts on the tuning area, a setup save on the setup area, the start-up load on the whole load and every other
operation on a slot (R130, R132, R144). -/
def Obligations.SettingsStayInRange : Prop := KeptByStep fun s => SettingsInRange s ∧ OperationFits s

/-! ### The control link -/

/-- The bytes of a command's frame, received one after another from IDLE, run the command (R172, R175, R184, section 11.3): the
last byte's step is the meaning of the command itself. -/
def Obligations.FrameRunsItsCommand : Prop :=
  ∀ (c : Instr) (kind : Byte) (body : List Byte) (rest : List Instr) (s : State),
    frameParts c = some (kind, body) → s.running = true → s.link.rx = Receiver.idle →
    Sys2Proof.core.run (frameBytes kind body).length
        { s with pending := (frameBytes kind body).map Instr.receiveByte ++ rest } =
      exec c { s with pending := rest }

/-- RECEIVE_BYTE by the receiver's state (R172, R173, and R175 for a sound frame of the wrong length). -/
def Obligations.ReceiverTakesByte : Prop :=
  ∀ (b : Byte) (s : State), s.running = true →
    let rx := s.link.rx
    let crc := crcByte rx.crc b
    let moved := fun r : Receiver => { s with link := { s.link with rx := r } }
    let dropped := fun (after : RxState) (flags : LinkFlags) => { s with link := { s.link with
      rx := { Receiver.idle with state := after }, discarded := min 255 (s.link.discarded + 1), flags := flags } }
    (rx.state = .idle → exec (.receiveByte b) s = .next (if b = 0xC5 then moved { Receiver.idle with state := .length } else s)) ∧
      (rx.state = .length → b.toNat ≤ 124 →
        exec (.receiveByte b) s = .next (moved { rx with state := .kind, length := b.toNat, crc := crc })) ∧
      (rx.state = .length → 124 < b.toNat →
        exec (.receiveByte b) s = .next (dropped .hunt { s.link.flags with overlong := true })) ∧
      (rx.state = .kind →
        exec (.receiveByte b) s =
          .next (moved { rx with state := if rx.length = 0 then .check else .body, kind := b, crc := crc })) ∧
      (rx.state = .body →
        exec (.receiveByte b) s =
          .next (moved { rx with state := if rx.length ≤ rx.body.length + 1 then .check else .body, body := rx.body ++ [b],
                                 crc := crc })) ∧
      (rx.state = .check → b ≠ rx.crc →
        exec (.receiveByte b) s = .next (dropped .idle { s.link.flags with crcError := true })) ∧
      (∀ n, rx.state = .check → b = rx.crc → bodyLength rx.kind = some n → rx.body.length ≠ n → s.link.replies.length < 8 →
        exec (.receiveByte b) s = .next (State.answered rx.kind [0x05] s.received)) ∧
      (rx.state = .hunt → exec (.receiveByte b) s = .next s)

/-- FRAMING_ERROR, BREAK, GAP_TIMEOUT and HUNT_END (R173): a frame in assembly is discarded and counted and its flag set;
outside a frame a framing error sets its flag and begins HUNT, and HUNT ends without a flag or a count. -/
def Obligations.LineFaults : Prop :=
  ∀ s : State, s.running = true →
    let st := s.link.rx.state
    let inFrame := st = .length ∨ st = .kind ∨ st = .body ∨ st = .check
    let dropped := fun (after : RxState) (flags : LinkFlags) => { s with link := { s.link with
      rx := { Receiver.idle with state := after }, discarded := min 255 (s.link.discarded + 1), flags := flags } }
    (inFrame →
      exec .framingError s = .next (dropped .hunt { s.link.flags with byteError := true }) ∧
        exec .lineBreak s = .next (dropped .idle { s.link.flags with cut := true }) ∧
        exec .gapTimeout s = .next (dropped .idle { s.link.flags with timeout := true })) ∧
      (st = .idle ∨ st = .hunt →
        exec .framingError s = .next { s with link := { s.link with
          rx := { Receiver.idle with state := .hunt }, flags := { s.link.flags with byteError := true } } }) ∧
      (st = .idle → exec .lineBreak s = .next s) ∧
      (st = .hunt →
        exec .lineBreak s = .next { s with link := { s.link with rx := Receiver.idle } } ∧
          exec .huntEnd s = .next { s with link := { s.link with rx := Receiver.idle } })

/-- TX_FRAME_END (R179, R181): the oldest reply, or else the oldest report with its lost field settled, is begun and leaves its
queue; with both queues empty the transmitter rests. The frame of a report carries kind 0x60 and on, and the body of section
11.3 with the codes of section 11.2; a frame is START, LENGTH, KIND, BODY and the CRC over the three, which takes each byte most
significant bit first through x^8 + x^2 + x + 1 from a register of 0 (R184), so that a frame with its CRC behind it checks to 0.
-/
def Obligations.FrameEndSendsNext : Prop :=
  (∀ (s : State) (frame : List Byte), s.running = true → s.link.tx = some frame →
    (∀ r rs, s.link.replies = r :: rs →
      exec .txFrameEnd s = .next { s with link := { s.link with replies := rs, tx := some (frameBytes r.kind r.body) } }) ∧
      (∀ r rs, s.link.replies = [] → s.link.reports = r :: rs →
        exec .txFrameEnd s = .next { s with link := { s.link with
          reports := rs
          lost := if classOf r = .completion then s.link.lost else false
          tx := some (frameBytes (byteOf (0x60 + reportIndex r)) (reportBody s.link.lost r)) } }) ∧
      (s.link.replies = [] → s.link.reports = [] → exec .txFrameEnd s = .next { s with link := { s.link with tx := none } })) ∧
  (∀ (kind : Byte) (body : List Byte),
    frameBytes kind body = 0xC5 :: byteOf body.length :: kind :: body ++ [crcOf (byteOf body.length :: kind :: body)]) ∧
  (let taken := fun (reg : Byte) (bit : Bool) => if reg.getLsbD 7 = bit then reg <<< 1 else (reg <<< 1) ^^^ 0x07
   (∀ reg b : Byte, crcByte reg b = taken (taken (taken (taken (taken (taken (taken (taken reg (b.getLsbD 7)) (b.getLsbD 6))
      (b.getLsbD 5)) (b.getLsbD 4)) (b.getLsbD 3)) (b.getLsbD 2)) (b.getLsbD 1)) (b.getLsbD 0)) ∧
     crcOf [] = 0 ∧ (∀ (bs : List Byte) (b : Byte), crcOf (bs ++ [b]) = crcByte (crcOf bs) b) ∧
     (∀ bs : List Byte, crcOf (bs ++ [crcOf bs]) = 0) ∧
     crcOf [0x31, 0x32, 0x33, 0x34, 0x35, 0x36, 0x37, 0x38, 0x39] = 0xF4) ∧
  ([Code.done, .accepted, .busy, .badArg, .badKind, .badLength, .notReady, .refused, .empty, .corrupt, .supplyLow, .verifyFailed,
      .aborted, .nothingToDo, .complete, .notSaved].map codeByte =
    [0x00, 0x01, 0x02, 0x03, 0x04, 0x05, 0x06, 0x07, 0x08, 0x09, 0x0A, 0x0B, 0x0C, 0x0D, 0x0E, 0xFF] ∧
    [LoadOutcome.ok, .corrected, .empty, .corrupt].map loadByte = [0, 1, 2, 3] ∧
    targetByte .tuningArea = 0x80 ∧ targetByte .setupArea = 0x81 ∧ ∀ n, targetByte (.slot n) = byteOf n) ∧
  ∀ lost : Bool,
    let flag := if lost then (1 : Byte) else 0
    let is := fun (item : Report) (kind : Nat) (body : List Byte) => 0x60 + reportIndex item = kind ∧ reportBody lost item = body
    (∀ a b c, is (.ready a b c) 0x60 [loadByte a, loadByte b, loadByte c]) ∧
      (∀ slot o sec, is (.recallDone slot o sec) 0x61 [byteOf slot, codeByte o, byteOf sec]) ∧
      (∀ target o, is (.storeDone target o) 0x62 [targetByte target, codeByte o]) ∧
      (∀ slot info o data,
        is (.patchData slot info o data) 0x63 ([byteOf slot, if info then 1 else 0, codeByte o] ++ data)) ∧
      (∀ (osc : Fin 16) (pts : Vector Point 8), is (.tuneProgress osc pts) 0x64
        ([byteOf osc.val] ++ ((List.finRange 8).map fun k => statusCode pts[k].status) ++
          (List.finRange 8).flatMap fun k => word16 (pts[k].residual % 65536).toNat)) ∧
      (∀ result okCount failed save,
        is (.tuneDone result okCount failed save) 0x65 [codeByte result, byteOf okCount, byteOf failed, codeByte save]) ∧
      (∀ (p : Fin 64) v, is (.paramChanged p v) 0x66 [byteOf p.val, byteOf v, byteOf (v / 256), flag]) ∧
      (∀ (k : Fin 48) v, is (.knobMoved k v) 0x67 [byteOf k.val, byteOf v, byteOf (v / 256), flag]) ∧
      (∀ (k : Fin 48) (p : Fin 64), is (.pickup k p) 0x68 [byteOf k.val, byteOf p.val, flag]) ∧
      (∀ (i : Fin 64) press, is (.switchEvent i press) 0x69 [byteOf i.val, if press then 0 else 1, flag]) ∧
      (∀ g : Fin 4, is (.groupMatch g none) 0x6A [byteOf g.val, 0, flag]) ∧
      ∀ (g : Fin 4) (states : BitVec 64), is (.groupMatch g (some states)) 0x6A
        ([byteOf g.val, 1, flag] ++ (List.range 8).map fun i => states.extractLsb' (8 * i) 8)

/-- While the start-up load runs, every play message and every request but LINK_STATS and GET_STATUS is answered NOT_READY and
changes nothing else (R23, R145, R174, R182). That NOT_READY comes before BAD_ARG for a request whose fields are out of range
too is the model's reading (log entry 28). -/
def Obligations.RefusedWhileLoading : Prop :=
  ∀ (c : Instr) (kind : Byte) (body : List Byte) (s : State),
    frameParts c = some (kind, body) → c ≠ .linkStats → c ≠ .getStatus → s.running = true → s.memory.ready = false →
    s.link.replies.length < 8 → exec c s = .next (State.answered kind [0x06] s.received)

/-- With eight replies held (R176): a request, or any other sound frame that is no play message, is discarded unanswered,
counted as discarded and not as valid, the overrun flag is set, and no block changes. A play message is dispatched; where it is
refused, the refusal is dropped and the overrun flag is set, while the message stays counted as valid and changes nothing else:
during the start-up load, with a key above 127, and with a body of the wrong length. -/
def Obligations.OverrunDiscards : Prop :=
  (∀ (c : Instr) (kind : Byte) (body : List Byte) (s : State),
    frameParts c = some (kind, body) → isPlay kind = false → s.running = true → 8 ≤ s.link.replies.length →
    exec c s = .next { s with link := { s.link with
      rx := Receiver.idle, discarded := min 255 (s.link.discarded + 1), flags := { s.link.flags with overrun := true } } }) ∧
  ∀ s : State, s.running = true → 8 ≤ s.link.replies.length →
    let rx := s.link.rx
    let discarded := Host.Outcome.next { s with link := { s.link with
      rx := Receiver.idle, discarded := min 255 (s.link.discarded + 1), flags := { s.link.flags with overrun := true } } }
    let dropped := Host.Outcome.next (State.sending { s with link := { s.link.received with
      flags := { s.link.flags with overrun := true } } })
    (∀ kind : Byte, bodyLength kind = none → exec (.badKind kind) s = discarded) ∧
      (∀ n, rx.state = .check → bodyLength rx.kind = some n → rx.body.length ≠ n →
        exec (.receiveByte rx.crc) s = if 0x10 ≤ rx.kind.toNat ∧ rx.kind.toNat ≤ 0x14 then dropped else discarded) ∧
      (∀ (c : Instr) (kind : Byte) (body : List Byte),
        frameParts c = some (kind, body) → isPlay kind = true → s.memory.ready = false → exec c s = dropped) ∧
      ∀ key velocity : Byte, s.memory.ready = true → 127 < key.toNat →
        exec (.noteOn key velocity) s = dropped ∧ exec (.noteOff key velocity) s = dropped

/-- BAD_KIND (R175), and the requests with a field out of range: each is answered BAD_ARG and changes nothing (R16, R17, R23,
R81, R89, R98, R99, R105, R119, R120, R123, R124, R134, R136 to R139, R142, R149 to R151, R167, R186). That a VOICE_ENABLE with
a direction that is neither is answered BAD_ARG whatever its voices are is the model's choice (log entry 36). -/
def Obligations.RefusedRequests : Prop :=
  (∀ (s : State) (kind : Byte), s.running = true → s.link.replies.length < 8 → bodyLength kind = none →
    exec (.badKind kind) s = .next (State.answered kind [0x04] s.received)) ∧
    ∀ s : State, s.takes →
      let bad := fun kind : Byte => Host.Outcome.next (State.answered kind [0x03] s.received)
      (∀ a b : Byte, 127 < a.toNat → exec (.noteOn a b) s = bad 0x10 ∧ exec (.noteOff a b) s = bad 0x11 ∧
        exec (.setPowerOnSlot a) s = bad 0x47) ∧
      (∀ a : Byte, 7 < a.toNat → exec (.getVoice a) s = bad 0x21) ∧
      (∀ (a : Byte) (w : BitVec 16), 63 < a.toNat → exec (.setParam a w) s = bad 0x28 ∧ exec (.getParam a) s = bad 0x29) ∧
      (∀ a b : Byte, 47 < a.toNat → exec (.getKnob a) s = bad 0x33 ∧ exec (.mapKnob a b) s = bad 0x30) ∧
      (∀ a : Byte, 1 < a.toNat → exec (.setPickupMode a) s = bad 0x31) ∧
      (∀ a b c d : Byte, 63 < a.toNat → exec (.getSwitch a) s = bad 0x3E ∧ exec (.setLampBinding a b) s = bad 0x3C ∧
        exec (.setSwitch a b c d) s = bad 0x38) ∧
      (∀ a : Byte, a ≠ 1 → a ≠ 2 → a ≠ 4 → a ≠ 8 → exec (.setDebounce a) s = bad 0x39) ∧
      (∀ (a l x y : Byte) (cs : BitVec 192), 3 < a.toNat → exec (.setGroup a cs l x y) s = bad 0x3A) ∧
      (∀ a : Byte, 4 < a.toNat → exec (.getPanel a) s = bad 0x3F) ∧
      (∀ a : Byte, 15 < a.toNat → exec (.getTuning a) s = bad 0x54) ∧
      (∀ w : BitVec 32, w.toNat < 200000 ∨ 420000 < w.toNat → exec (.setReference w) s = bad 0x52) ∧
      (s.memory.op = none → ∀ (a b : Byte) (nm : BitVec 96) (r : BitVec 896), 127 < a.toNat →
        exec (.recall a) s = bad 0x40 ∧ exec (.store a nm b) s = bad 0x41 ∧ exec (.writePatch a r) s = bad 0x42 ∧
          exec (.readPatch a) s = bad 0x43 ∧ exec (.patchInfo a) s = bad 0x44 ∧ exec (.protect a b) s = bad 0x45) ∧
      (∀ set direction : Byte, 1 < direction.toNat → exec (.voiceEnable set direction) s = bad 0x20) ∧
      (∀ b : DefaultsBytes, 1 < b.depth.toNat ∨ 1 < b.force.toNat ∨ 1 < b.save.toNat ∨ 1 < b.disableFailed.toNat ∨
        1 < b.hysteresis.toNat ∨ 1 < b.polarity.toNat → exec (.setTuneDefaults b) s = bad 0x53) ∧
      (∀ scope depth force save off : Byte, 1 < depth.toNat ∨ 1 < force.toNat ∨ 1 < save.toNat ∨ 1 < off.toNat →
        exec (.tuneStart scope depth force save off) s = bad 0x50) ∧
      (∀ (a l slot : Byte) (cs : BitVec 192), 127 < slot.toNat → exec (.setGroup a cs l 1 slot) s = bad 0x3A) ∧
      (s.memory.op = none → ∀ (a b : Byte) (nm : BitVec 96), 1 < b.toNat →
        exec (.store a nm b) s = bad 0x41 ∧ exec (.protect a b) s = bad 0x45) ∧
      (s.memory.op = none → ∀ (a b : Byte) (nm : BitVec 96) (j : Fin 12),
        let c := (nm.extractLsb' (8 * j.val) 8).toNat
        c < 0x20 ∨ 0x7E < c → exec (.store a nm b) s = bad 0x41) ∧
      (s.memory.op = none → ∀ (a : Byte) (r : BitVec 896),
        let f := fun lo width : Nat => r.toNat / 2 ^ lo % 2 ^ width
        f 0 7 ≠ 0x35 ∨ 2000 < f 8 11 ∨ f 22 2 = 3 ∨ f 27 2 = 3 ∨ f 30 2 = 3 ∨ 24 < f 32 5 ∨ 8 < f 37 4 ∨
          (∃ j : Fin 12, f (44 + 7 * j.val) 7 < 0x20 ∨ f (44 + 7 * j.val) 7 = 0x7F) → exec (.writePatch a r) s = bad 0x42)

/-- Admission to the report queue (R177, R178). A completion item is always admitted, at the newest end: from a full queue the
oldest item that is no completion item goes and the lost mark is set, and from a queue of completion items alone the oldest goes
without a mark. A PARAM_CHANGED or KNOB_MOVED takes the place of a waiting item for the same parameter or knob, or replaces it
at the newest end when a completion item or a PICKUP stands behind it. An item that has no place is dropped with the lost mark.
A report offered reaches admission when the flag of its kind in the report mask is set, or when it passes whatever the mask
holds (R180). -/
def Obligations.ReportsAdmitted : Prop :=
  (∀ item : Report, classOf item = match item with
    | .paramChanged _ _ | .knobMoved _ _ => .coalesced
    | .switchEvent _ _ | .groupMatch _ _ | .pickup _ _ => .droppable
    | .ready _ _ _ | .recallDone _ _ _ | .storeDone _ _ | .patchData _ _ _ _ | .tuneProgress _ _ | .tuneDone _ _ _ _ =>
      .completion) ∧
  (∀ a b : Report, sameItem a b = true ↔
    (∃ p v w, a = .paramChanged p v ∧ b = .paramChanged p w) ∨ ∃ k v w, a = .knobMoved k v ∧ b = .knobMoved k w) ∧
  (∀ (passes : Bool) (item : Report) (s : State),
    let flag := match item with
      | .ready _ _ _ => 0
      | .recallDone _ _ _ => 1
      | .storeDone _ _ => 2
      | .patchData _ _ _ _ => 3
      | .tuneProgress _ _ => 4
      | .tuneDone _ _ _ _ => 5
      | .paramChanged _ _ => 6
      | .knobMoved _ _ => 7
      | .pickup _ _ => 8
      | .switchEvent _ _ => 9
      | .groupMatch _ _ => 10
    offer passes item s =
      if passes = true ∨ s.link.mask.getLsbD flag = true then { s with link := admitItem item s.link } else s) ∧
  ∀ (item : Report) (l : Link), l.reports.length ≤ 96 →
    let appended := { l with reports := l.reports ++ [item] }
    (classOf item = .completion →
      (l.reports.length < 96 → admitItem item l = appended) ∧
        (∀ before r after, l.reports = before ++ r :: after → l.reports.length = 96 → (∀ x ∈ before, classOf x = .completion) →
          classOf r ≠ .completion → admitItem item l = { l with reports := before ++ after ++ [item], lost := true }) ∧
        (l.reports.length = 96 → (∀ x ∈ l.reports, classOf x = .completion) →
          admitItem item l = { l with reports := l.reports.drop 1 ++ [item] })) ∧
      (classOf item = .droppable → admitItem item l = if l.reports.length < 88 then appended else { l with lost := true }) ∧
      (classOf item = .coalesced →
        (∀ before old after, l.reports = before ++ old :: after → (∀ x ∈ before, sameItem item x = false) →
          sameItem item old = true → admitItem item l =
            { l with reports := if after.any fun x => decide (classOf x = .completion) || decide (reportIndex x = 8) then
                before ++ after ++ [item] else before ++ item :: after }) ∧
          ((∀ x ∈ l.reports, sameItem item x = false) →
            admitItem item l = if l.reports.length < 96 then appended else { l with lost := true }))

/-- RESTART (R18, R19, R76, R91, R109, R126, R146, R169, R183): each block returns to silence and keeps what its chapter keeps,
both queues are emptied, and DONE is the reply; with an operation in flight or an item pending it is refused BUSY. -/
def Obligations.RestartSilences : Prop :=
  ∀ s : State, s.takes →
    (s.memory.op = none → s.memory.pendingPanel = none → s.memory.pendingTune = false →
      exec .restart s = .next (State.answered 0x5B [0x00] { s with
        table := { s.table with
          releaseOrder := []
          voices := tab fun v => { s.voice v with
            state := if (s.voice v).state = .off then .off else .free, reserved := false, key := none, gate := .low, gap := 0,
            release := 0, refreshedA := false, refreshedB := false } }
        assigner := { s.assigner with
          keyList := [], waiting := [], pedalDown := false, bend := 0, monoKey := none, monoStack := [] }
        refresh := { s.refresh with overrides := tab fun _ => { code := 0, valid := false, loadPending := false } }
        params := { s.params with
          morphLength := none
          records := tab fun p => { s.params.records[p] with
            value := if s.params.records[p].morph = none then s.params.records[p].value else s.params.records[p].target
            morph := none } }
        scanner := { s.scanner with knobs := tab fun k => { s.scanner.knobs[k] with seeded := false } }
        matrix := { s.matrix with
          priming := true
          switches := tab fun i => { s.matrix.switches[i] with candidate := s.matrix.switches[i].stable, count := 0 } }
        tune := { s.tune with channels := tab fun _ => Channel.idle, job := none }
        link := { s.link.received with replies := [], reports := [], lost := false } })) ∧
      (s.memory.op ≠ none ∨ s.memory.pendingPanel ≠ none ∨ s.memory.pendingTune = true →
        exec .restart s = .next (State.answered 0x5B [0x02] s.received))

/-! ### Voices and notes -/

/-- NOTE_ON in POLY (R7, R20, R23 to R29). The key's new entry stands newest with the clamped velocity. Its voices come first
from the voices that sound the key and are not reserved, by their old stack positions (equal ones ascending in index: log entry
1), and then from the chain, each the first in the order of R25: restrike, FREE by ROTATE, REUSE or LOWEST, RELEASING,
SUSTAINED, and last the steal of the OLDEST or QUIETEST voice, the highest held key kept with keep top while another candidate
stands. With fewer than S voices the chain has run out. Each voice starts the key at stack position 0, 1, 2 and on and becomes
newest in the start order. The rotate pointer moves past a FREE voice that ROTATE picks, and not otherwise; a start in a voice's
own pitch slot sets the stale mark. A stolen voice leaves the voice set of its key, which waits when its set is left empty and
returning is on; the key itself waits exactly when no voice sounds it. -/
def Obligations.NoteOnVoicesKey : Prop :=
  ∀ (key velocity : Byte) (s : State),
    s.serving → s.assigner.setup.mode = .poly → StartOrderWhole s → ReleaseOrderExact s → key.toNat ≤ 127 → velocity ≠ 0 →
    let k := key.toNat
    let setup := s.assigner.setup
    let own := (List.finRange 8).filter fun v => (s.voice v).sounds k && !(s.voice v).reserved
    ∃ t e, exec (.noteOn key velocity) s = .next t ∧
      t.assigner.keyList.getLast? = some e ∧ e.key = k ∧ e.velocity = min 127 velocity.toNat ∧ e.voices.Nodup ∧
      (own.length ≤ setup.stack → e.voices.length ≤ setup.stack) ∧
      (∀ (i : Nat) (v : Fin 8), e.voices[i]? = some v →
        (s.voice v).reserved = false ∧
          t.voice v = (s.voice v).started setup (heldKeys s) k (min 127 velocity.toNat) i) ∧
      (∀ v, v ∈ e.voices.take own.length ↔ v ∈ own) ∧
      (e.voices.take own.length).Pairwise (fun u v =>
        (s.voice u).stackPos < (s.voice v).stackPos ∨ ((s.voice u).stackPos = (s.voice v).stackPos ∧ u < v)) ∧
      (let order := chainOrder s (heldKeys t).max? setup.keepTop k
       (∀ (i : Nat) (v : Fin 8), own.length ≤ i → e.voices[i]? = some v → (order (e.voices.take i)).head? = some v) ∧
         (e.voices.length < setup.stack → order e.voices = [])) ∧
      t.table.rotate = rotatePast s e.voices ∧ t.refresh = s.refresh.restarted e.voices ∧
      t.table.startOrder = s.table.startOrder.filter (fun v => decide (v ∉ e.voices)) ++ e.voices ∧
      (KeyListsConsistent s →
        let lost := fun (h : Nat) (v : Fin 8) => decide (v ∈ e.voices) && (s.voice v).sounds h
        let others :=
          if k ∈ heldKeys s ∨ s.assigner.keyList.length < 32 then s.assigner.keyList.filter fun f => decide (f.key ≠ k)
          else s.assigner.keyList.drop 1
        t.assigner.keyList = others.map (fun f => { f with voices := f.voices.filter fun v => !lost f.key v }) ++ [e] ∧
          ∀ f ∈ others, f.key ∉ s.assigner.waiting →
            (f.key ∈ t.assigner.waiting ↔
              setup.returning = true ∧ (∃ v, lost f.key v = true) ∧ ∀ v ∈ f.voices, lost f.key v = true)) ∧
      (k ∈ t.assigner.waiting ↔ e.voices = [])

/-- What NOTE_ON in POLY leaves alone (R23 to R30): every block but the Voice Table and the Note Assigner, but for the stale
mark of the slot in progress (R69); every setting of the Note Assigner; and the record of every voice that neither sounded the
key before nor sounds it afterwards. -/
def Obligations.NoteOnLeavesRest : Prop :=
  ∀ (key velocity : Byte) (s : State),
    s.serving → s.assigner.setup.mode = .poly → key.toNat ≤ 127 → velocity ≠ 0 →
    ∃ t, exec (.noteOn key velocity) s = .next t ∧ SamePlayFrame s t ∧ t.tune = s.tune ∧
      t.link = s.link.received.sending ∧
      t.refresh = { s.refresh with stale := t.refresh.stale } ∧
      t.assigner = { s.assigner with keyList := t.assigner.keyList, waiting := t.assigner.waiting } ∧
      ∀ v, (s.voice v).sounds key.toNat = false → (t.voice v).sounds key.toNat = false → t.voice v = s.voice v

/-- NOTE_OFF, and NOTE_ON with velocity 0, in POLY (R12, R23, R31) where no waiting key is served: the key leaves both lists,
and every voice that sounds it becomes SUSTAINED with the pedal down and RELEASING with the pedal up, in ascending index. -/
def Obligations.NoteOffReleases : Prop :=
  ∀ (c : Instr) (key velocity : Byte) (s : State),
    c = .noteOff key velocity ∨ c = .noteOn key 0 →
    s.serving → s.assigner.setup.mode = .poly → ReleaseOrderExact s → key.toNat ≤ 127 →
    (s.assigner.setup.returning = false ∨ s.assigner.pedalDown = true ∨ s.assigner.waiting.filter (· ≠ key.toNat) = []) →
    let down := s.assigner.pedalDown
    let own := fun v : Fin 8 => (s.voice v).sounds key.toNat
    exec c s = .next (State.sending { s.received with
      assigner := { s.assigner with
        keyList := s.assigner.keyList.filter fun e => e.key ≠ key.toNat
        waiting := s.assigner.waiting.filter (· ≠ key.toNat) }
      table := { s.table with
        releaseOrder := if down then s.table.releaseOrder else s.table.releaseOrder ++ (List.finRange 8).filter own
        voices := tab fun v =>
          if own v then if down then { s.voice v with state := .sustained } else (s.voice v).released (s.param 8)
          else s.voice v } })

/-- With returning on and the pedal up, a NOTE_OFF gives the lowest-indexed voice it releases that is not reserved to the newest
waiting key (R32): the voice sounds that key at stack position 0 with the velocity of its entry, the key no longer waits, and
every other released voice is RELEASING. Its note start is that of R7 and R29 in full, and nothing else of the part changes. -/
def Obligations.NoteOffReturnsVoice : Prop :=
  ∀ (key velocity : Byte) (s : State) (v : Fin 8) (w : Nat) (e : KeyEntry),
    s.serving → s.assigner.setup.mode = .poly → s.assigner.setup.returning = true → s.assigner.pedalDown = false →
    key.toNat ≤ 127 → (s.assigner.waiting.filter (· ≠ key.toNat)).getLast? = some w → e ∈ s.assigner.keyList → e.key = w →
    (s.assigner.keyList.map KeyEntry.key).Nodup →
    (s.voice v).sounds key.toNat = true → (s.voice v).reserved = false →
    (∀ u < v, (s.voice u).sounds key.toNat = true → (s.voice u).reserved = true) →
    ∃ t, exec (.noteOff key velocity) s = .next t ∧ SamePlayFrame s t ∧
      (t.voice v).state = .sounding ∧ (t.voice v).key = some w ∧ (t.voice v).velocity = e.velocity ∧ (t.voice v).stackPos = 0 ∧
      (t.voice v).refreshedA = false ∧ (t.voice v).refreshedB = false ∧
      v ∉ t.table.releaseOrder ∧ t.table.startOrder.getLast? = some v ∧
      t.assigner.waiting = s.assigner.waiting.filter (fun k => decide (k ≠ key.toNat) && decide (k ≠ w)) ∧
      { e with voices := [v] } ∈ t.assigner.keyList ∧
      (∀ u, u ≠ v → t.voice u =
        if (s.voice u).sounds key.toNat then (s.voice u).released (s.param 8) else s.voice u) ∧
      let own := fun u : Fin 8 => (s.voice u).sounds key.toNat
      let released := { s.received with
        table := { s.table with
          releaseOrder := s.table.releaseOrder ++ (List.finRange 8).filter own
          voices := tab fun u => if own u then (s.voice u).released (s.param 8) else s.voice u }
        assigner := { s.assigner with
          keyList := s.assigner.keyList.filter fun e => decide (e.key ≠ key.toNat)
          waiting := s.assigner.waiting.filter fun k => decide (k ≠ key.toNat) } }
      (ReleaseOrderExact s → t = (released.returned (heldKeys s) [v]).sending)

/-- MONO (R11, R29, R31, R35 to R37). After every NOTE_ON, and every NOTE_OFF that leaves a key held, the mono key is the one
that the priority selects. Every step keeps a stack whose voices SOUND the mono key. From such a stack: an empty one is formed
anew for the selected key by the chain of R25 to R27, keep top disregarded, each voice by the note start of R7 at positions 0,
1, 2 and on; a change of the selected key moves the voices that are not reserved to it, by a note start that keeps their
positions with retrigger on, by a legato change with it off; a NOTE_ON of the mono key itself restrikes them, their positions
kept by the model's choice (log entry 46), in the order in which they joined the stack, as at a move (log entry 37); a message
that changes neither leaves them alone; the reserved voices leave by a key release; and a NOTE_OFF that empties the key list
releases the stack. A NOTE_OFF of a key that is not listed releases the voices SOUNDING it, and NOTE_ON with velocity 0 is
NOTE_OFF (R23). The model's reading: where every voice of the stack is reserved, the stack is left empty with its mono key set
and no new one is formed at that event (log entry 22). The model's choice: after a change of mono priority the next NOTE_OFF
moves the stack whatever key it is for (log entry 42). -/
def Obligations.MonoKeyIsSelected : Prop :=
  (∀ (key velocity : Byte) (s : State), s.serving → s.assigner.setup.mode = .mono → key.toNat ≤ 127 →
    let selected := fun t : State =>
      (t.assigner.setup.priority = .last → t.assigner.monoKey = (heldKeys t).getLast?) ∧
        (t.assigner.setup.priority = .low → t.assigner.monoKey = (heldKeys t).min?) ∧
        (t.assigner.setup.priority = .high → t.assigner.monoKey = (heldKeys t).max?)
    (velocity ≠ 0 → ∃ t, exec (.noteOn key velocity) s = .next t ∧ SamePlayFrame s t ∧ key.toNat ∈ heldKeys t ∧ selected t) ∧
      (key.toNat ∈ heldKeys s → ∃ t, exec (.noteOff key velocity) s = .next t ∧ SamePlayFrame s t ∧
        heldKeys t = (heldKeys s).filter (· ≠ key.toNat) ∧ selected t) ∧
      (key.toNat ∉ heldKeys s → ∃ t, exec (.noteOff key velocity) s = .next t ∧ SamePlayFrame s t ∧
        heldKeys t = heldKeys s ∧ (heldKeys s ≠ [] → selected t)) ∧
      exec (.noteOn key 0) s = exec (.noteOff key velocity) s) ∧
  KeptByStep MonoStackSounds ∧
  ∀ (key velocity : Byte) (s : State), s.serving → s.assigner.setup.mode = .mono → key.toNat ≤ 127 →
    MonoStackSounds s → StartOrderWhole s → ReleaseOrderExact s →
    let setup := s.assigner.setup
    let stack := s.assigner.monoStack
    let kept := stack.filter fun v => !(s.voice v).reserved
    let letGo := fun x : Voice => if s.assigner.pedalDown then { x with state := .sustained } else x.released (s.param 8)
    let formed := fun (c : Nat) (t : State) => ∃ e ∈ t.assigner.keyList, e.key = c ∧
      StackFormed (heldKeys s) e { s with
        link := t.link
        assigner := { s.assigner with keyList := t.assigner.keyList, waiting := t.assigner.waiting } } t
    let rests := fun t : State => t.assigner.monoStack = kept ∧ t.table.rotate = s.table.rotate ∧
      t.table.releaseOrder = (if s.assigner.pedalDown then s.table.releaseOrder
        else s.table.releaseOrder ++ stack.filter fun v => (s.voice v).reserved) ∧
      ∀ v, v ∉ kept → t.voice v = if v ∈ stack then letGo (s.voice v) else s.voice v
    let struck := fun (c : Nat) (t : State) => rests t ∧ t.refresh = s.refresh.restarted kept ∧
      t.table.startOrder = s.table.startOrder.filter (fun v => decide (v ∉ kept)) ++ kept ∧
      ∃ e ∈ t.assigner.keyList, e.key = c ∧ ∀ v ∈ kept,
        t.voice v = (s.voice v).started setup (heldKeys s) c e.velocity (s.voice v).stackPos
    let slid := fun (c : Nat) (t : State) => rests t ∧ t.table.startOrder = s.table.startOrder ∧ t.refresh = s.refresh ∧
      ∀ v ∈ kept, t.voice v = { s.voice v with
        key := some c, lastKey := some c, glideTarget := some (c * 256), glide := (s.voice v).glided setup (heldKeys s) c }
    let moved := fun (c : Nat) (t : State) => if setup.retrigger then struck c t else slid c t
    let still := fun t : State => t.table = s.table ∧ t.refresh = s.refresh ∧ t.assigner.monoStack = stack
    let others :=
      if key.toNat ∈ heldKeys s ∨ s.assigner.keyList.length < 32 then s.assigner.keyList.filter fun e => decide (e.key ≠ key.toNat)
      else s.assigner.keyList.drop 1
    let frame := fun t : State => SamePlayFrame s t ∧ t.tune = s.tune ∧ t.link = s.link.received.sending ∧
      t.refresh = { s.refresh with stale := t.refresh.stale } ∧
      t.assigner = { s.assigner with
        keyList := t.assigner.keyList, waiting := t.assigner.waiting, monoKey := t.assigner.monoKey,
        monoStack := t.assigner.monoStack }
    (velocity ≠ 0 → ∃ t c, exec (.noteOn key velocity) s = .next t ∧ frame t ∧ t.assigner.monoKey = some c ∧
      t.assigner.keyList = others ++ [{ key := key.toNat, velocity := min 127 velocity.toNat, voices := [] }] ∧
      (stack = [] → formed c t) ∧
      (stack ≠ [] → s.assigner.monoKey ≠ some c → moved c t) ∧
      (stack ≠ [] → s.assigner.monoKey = some c → c = key.toNat → struck c t) ∧
      (stack ≠ [] → s.assigner.monoKey = some c → c ≠ key.toNat → still t)) ∧
      (key.toNat ∈ heldKeys s → ∃ t, exec (.noteOff key velocity) s = .next t ∧ frame t ∧
        t.assigner.keyList = s.assigner.keyList.filter (fun e => decide (e.key ≠ key.toNat)) ∧
        (∀ c, t.assigner.monoKey = some c →
          (s.assigner.monoKey = some c → still t) ∧
            (s.assigner.monoKey ≠ some c → stack = [] → formed c t) ∧ (s.assigner.monoKey ≠ some c → stack ≠ [] → moved c t)) ∧
        (t.assigner.monoKey = none → t.assigner.keyList = [] ∧ t.assigner.monoStack = [] ∧
          t.table.startOrder = s.table.startOrder ∧ t.table.rotate = s.table.rotate ∧ t.refresh = s.refresh ∧
          t.table.releaseOrder = (if s.assigner.pedalDown then s.table.releaseOrder
            else s.table.releaseOrder ++ (List.finRange 8).filter fun v => decide (v ∈ stack)) ∧
          ∀ v, t.voice v = if v ∈ stack then letGo (s.voice v) else s.voice v)) ∧
      (key.toNat ∉ heldKeys s →
        let chosen := match setup.priority with
          | .last => (heldKeys s).getLast?
          | .low => (heldKeys s).min?
          | .high => (heldKeys s).max?
        let own := fun v : Fin 8 => (s.voice v).sounds key.toNat
        (s.assigner.keyList = [] ∨ s.assigner.monoKey = chosen →
          exec (.noteOff key velocity) s = .next (State.sending { s.received with
            table := { s.table with
              releaseOrder :=
                if s.assigner.pedalDown then s.table.releaseOrder else s.table.releaseOrder ++ (List.finRange 8).filter own
              voices := tab fun v => if own v then letGo (s.voice v) else s.voice v } })) ∧
          (s.assigner.keyList ≠ [] → s.assigner.monoKey ≠ chosen → (∀ v, own v = false) →
            ∃ t c, exec (.noteOff key velocity) s = .next t ∧ frame t ∧ chosen = some c ∧ t.assigner.monoKey = some c ∧
              (stack = [] → formed c t) ∧ (stack ≠ [] → moved c t)))

/-- PEDAL (R12, R38) and BEND (R39): the pedal is set, and when it goes up every SUSTAINED voice becomes RELEASING in ascending
index; the bend value is clamped to -8192..8191 and stored. Nothing else changes. -/
def Obligations.PedalAndBend : Prop :=
  ∀ s : State, s.serving →
    (∀ (state : Byte), ReleaseOrderExact s →
      let up := s.assigner.pedalDown = true ∧ state = 0
      exec (.pedal state) s = .next (State.sending { s.received with
        assigner := { s.assigner with pedalDown := decide (state ≠ 0) }
        table := { s.table with
          releaseOrder :=
            if up then s.table.releaseOrder ++ (List.finRange 8).filter fun v => (s.voice v).state = .sustained
            else s.table.releaseOrder
          voices := tab fun v =>
            if up ∧ (s.voice v).state = .sustained then (s.voice v).released (s.param 8) else s.voice v } })) ∧
      ∀ value : BitVec 16,
        exec (.bend value) s = .next (State.sending { s.received with
          assigner := { s.assigner with bend := max (-8192) (min 8191 value.toInt) } })

/-- ALL_OFF (R14, R40): the lists, the mono key and stack and the pedal are cleared; without cut every SOUNDING or SUSTAINED
voice becomes RELEASING; with cut every voice in play becomes FREE, or TUNING when a tune round has reserved it. Each voice that
becomes TUNING is announced as taken, in ascending index: its mark is TAKEN, the wait ends with the last reserved one, and its
two channels start with their first codes (R154, R155, R163). That the counters of a channel stand at 0 as its trial begins is
the model's choice (log entry 44). -/
def Obligations.AllOffSilences : Prop :=
  ∀ (cut : Byte) (s : State), s.serving → ReleaseOrderExact s →
    let cleared := { s.assigner with keyList := [], waiting := [], monoKey := none, monoStack := [], pedalDown := false }
    let sounding := fun v : Fin 8 => decide ((s.voice v).state = .sounding) || decide ((s.voice v).state = .sustained)
    (cut = 0 →
      exec (.allOff cut) s = .next (State.sending { s.received with
        assigner := cleared
        table := { s.table with
          releaseOrder := s.table.releaseOrder ++ (List.finRange 8).filter sounding
          voices := tab fun v => if sounding v then (s.voice v).released (s.param 8) else s.voice v } })) ∧
      (cut ≠ 0 →
        (let cuts := (List.finRange 8).filter fun v => (s.voice v).inPlay
         let quiet := { s.received with
          assigner := cleared
          table := { s.table with
            releaseOrder := []
            voices := tab fun v =>
              if (s.voice v).inPlay then
                if (s.voice v).reserved then { (s.voice v).cutTo .tuning with reserved := false } else (s.voice v).cutTo .free
              else s.voice v } }
         exec (.allOff cut) s = .next (State.sending ((cuts.filter fun v => (s.voice v).reserved).foldl State.took quiet))) ∧
        ∃ t, exec (.allOff cut) s = .next t ∧ SamePlayFrame s t ∧ t.assigner = cleared ∧ t.link = s.link.received.sending ∧
          t.table.startOrder = s.table.startOrder ∧ t.table.rotate = s.table.rotate ∧ t.table.releaseOrder = [] ∧
          (∀ v, t.voice v =
            if (s.voice v).inPlay then
              if (s.voice v).reserved then { (s.voice v).cutTo .tuning with reserved := false } else (s.voice v).cutTo .free
            else s.voice v) ∧
          ((∀ v, (s.voice v).inPlay = true → (s.voice v).reserved = false) → t.tune = s.tune ∧ t.refresh = s.refresh))

/-- VOICE_ENABLE (R14, R16, R33, R34, R37). Off cuts the voices of the set to OFF: in POLY a cut voice leaves the voice set of
its key, and a held key that so loses its last voice joins the waiting list; in MONO it leaves the stack. On returns the OFF
voices of the set to FREE, in ascending index: in POLY each serves the newest waiting key there is, in MONO it joins a stack
that is short of S voices at the lowest position free there. With a TUNING or reserved voice in the set the request is refused
BUSY and nothing else changes. -/
def Obligations.VoiceEnable : Prop :=
  ∀ (voices : Byte) (s : State), s.takes →
    let inSet := fun v : Fin 8 => voices.getLsbD v.val
    ((∀ v, inSet v = true → (s.voice v).state ≠ .tuning ∧ (s.voice v).reserved = false) →
      (∃ t, exec (.voiceEnable voices 0) s = .next t ∧
        t.link = Link.sending { s.link.received with replies := s.link.replies ++ [{ kind := 0xA0, body := [0x00] }] } ∧
        SamePlayFrame s t ∧ t.tune = s.tune ∧ t.refresh = s.refresh ∧
        t.assigner.keyList.map KeyEntry.key = s.assigner.keyList.map KeyEntry.key ∧
        t.assigner.setup = s.assigner.setup ∧ t.assigner.pedalDown = s.assigner.pedalDown ∧ t.assigner.bend = s.assigner.bend ∧
        t.table.startOrder = s.table.startOrder ∧ t.table.rotate = s.table.rotate ∧
        (∀ v, v ∈ t.table.releaseOrder ↔ v ∈ s.table.releaseOrder ∧ ¬ (inSet v = true ∧ (s.voice v).state ≠ .off)) ∧
        (∀ v, t.voice v =
          if inSet v && decide ((s.voice v).state ≠ .off) then { (s.voice v).cutTo .off with enabled := false } else s.voice v) ∧
        (s.assigner.setup.mode = .poly → KeyListsConsistent s → t.assigner = s.bereft ((List.finRange 8).filter inSet)) ∧
        (s.assigner.setup.mode = .mono → t.assigner = { s.assigner with
          monoStack := s.assigner.monoStack.filter fun v => !(inSet v && decide ((s.voice v).state = .sounding)) })) ∧
        (s.assigner.setup.mode = .poly → s.assigner.waiting = [] →
          exec (.voiceEnable voices 1) s = .next (State.answered 0x20 [0x00] { s.received with
            table := { s.table with
              voices := tab fun v =>
                if inSet v && decide ((s.voice v).state = .off) then { s.voice v with state := .free, enabled := true }
                else s.voice v } })) ∧
        (let freed := { s.received with
          table := { s.table with
            voices := tab fun v =>
              if inSet v && decide ((s.voice v).state = VoiceState.off) then { s.voice v with state := .free, enabled := true }
              else s.voice v } }
         let offs := (List.finRange 8).filter fun v => inSet v && decide ((s.voice v).state = VoiceState.off)
         KeyListsConsistent s → MonoStackSounds s → s.assigner.setup.stack ≤ 8 →
          exec (.voiceEnable voices 1) s = .next (State.answered 0x20 [0x00] (freed.returned (heldKeys s) offs)))) ∧
      ∀ direction : Byte, direction = 0 ∨ direction = 1 →
        (∃ v, inSet v = true ∧ ((s.voice v).state = .tuning ∨ (s.voice v).reserved = true)) →
        exec (.voiceEnable voices direction) s = .next (State.answered 0x20 [0x02] s.received)

/-- SET_VOICE_SETUP (R22, R41, R43, section 11.3): its body is the twelve fields of R22 in their order, one byte each; with
every field in its range they become the setup in effect and the edited flag is set. Where mode and stack size stay, nothing
else changes. A reassignment releases every SOUNDING and SUSTAINED voice with the hold of parameter 8, ascending, and empties
the voice sets, the mono stack and the waiting list; then in POLY the chain voices the held keys under the new setup, the newest
entry first, each with its entry's velocity, a later key taking voices from an earlier one, and in MONO a stack is formed for
the key that the priority selects. A key left without a voice waits when returning is on; that it joins at its own voicing is
the model's choice (log entry 39). The order of the key list and the pedal stay; no voice stays SUSTAINED or sounds a key that
is not held, and no entry has more than the new S voices, in MONO none. With a field out of range the request is refused
BAD_ARG. -/
def Obligations.VoiceSetupReplaced : Prop :=
  ∀ (b : SetupBytes) (s : State), s.takes →
    let inRange := b.mode.toNat ≤ 1 ∧ (b.stack = 1 ∨ b.stack = 2 ∨ b.stack = 4 ∨ b.stack = 8) ∧ b.assign.toNat ≤ 2 ∧
      b.steal.toNat ≤ 1 ∧ b.keepTop.toNat ≤ 1 ∧ b.returning.toNat ≤ 1 ∧ b.priority.toNat ≤ 2 ∧ b.retrigger.toNat ≤ 1 ∧
      b.glide.toNat ≤ 2 ∧ b.bendRange.toNat ≤ 24 ∧ b.gap.toNat ≤ 8 ∧ 1 ≤ b.width.toNat ∧ b.width.toNat ≤ 8
    let new : VoiceSetup :=
      { mode := if b.mode = 0 then .poly else .mono
        stack := b.stack.toNat
        assign := if b.assign = 0 then .rotate else if b.assign = 1 then .reuse else .lowest
        steal := if b.steal = 0 then .oldest else .quietest
        keepTop := decide (b.keepTop = 1)
        returning := decide (b.returning = 1)
        priority := if b.priority = 0 then .last else if b.priority = 1 then .low else .high
        retrigger := decide (b.retrigger = 1)
        glide := if b.glide = 0 then .off else if b.glide = 1 then .always else .legato
        bendRange := b.bendRange.toNat
        gap := b.gap.toNat
        width := b.width.toNat }
    let same := new.mode = s.assigner.setup.mode ∧ new.stack = s.assigner.setup.stack
    frameParts (.setVoiceSetup b) = some (0x22, [b.mode, b.stack, b.assign, b.steal, b.keepTop, b.returning, b.priority,
        b.retrigger, b.glide, b.bendRange, b.gap, b.width]) ∧
      (inRange → same → exec (.setVoiceSetup b) s = .next (State.answered 0x22 [0x00] { s.received with
        assigner := { s.assigner with setup := new }, params := { s.params with edited := true } })) ∧
      (inRange → ¬ same → new.mode = .poly → KeyListsConsistent s →
        ∃ t, exec (.setVoiceSetup b) s = .next t ∧ t.assigner.setup = new ∧ t.params = { s.params with edited := true } ∧
          t.link = Link.sending { s.link.received with replies := s.link.replies ++ [{ kind := 0xA2, body := [0x00] }] } ∧
          heldKeys t = heldKeys s ∧ t.assigner.pedalDown = s.assigner.pedalDown ∧ t.assigner.monoKey = none ∧
          t.assigner.monoStack = [] ∧
          (∀ e ∈ t.assigner.keyList, e.voices.length ≤ new.stack ∧ ∀ v ∈ e.voices, (t.voice v).sounds e.key = true) ∧
          (∀ v, (t.voice v).state ≠ .sustained ∧ ((t.voice v).state = .sounding → ∃ k ∈ heldKeys s, (t.voice v).key = some k)) ∧
          (new.returning = false → t.assigner.waiting = [])) ∧
      (inRange → ¬ same → new.mode = .mono →
        ∃ t, exec (.setVoiceSetup b) s = .next t ∧ t.assigner.setup = new ∧ t.params = { s.params with edited := true } ∧
          t.link = Link.sending { s.link.received with replies := s.link.replies ++ [{ kind := 0xA2, body := [0x00] }] } ∧
          heldKeys t = heldKeys s ∧ t.assigner.pedalDown = s.assigner.pedalDown ∧ t.assigner.waiting = [] ∧
          (∀ e ∈ t.assigner.keyList, e.voices = []) ∧ t.assigner.monoStack.length ≤ new.stack ∧
          (new.priority = .last → t.assigner.monoKey = (heldKeys s).getLast?) ∧
          (new.priority = .low → t.assigner.monoKey = (heldKeys s).min?) ∧
          (new.priority = .high → t.assigner.monoKey = (heldKeys s).max?)) ∧
      (inRange → KeyListsConsistent s → StartOrderWhole s → ReleaseOrderExact s →
        ∃ u, SetupAdopted new s.received u ∧
          exec (.setVoiceSetup b) s = .next (State.answered 0x22 [0x00] { u with params := { u.params with edited := true } })) ∧
      (¬ inRange → exec (.setVoiceSetup b) s = .next (State.answered 0x22 [0x03] s.received))

/-! ### The refresh rotation and the timers -/

/-- HSTB_RISE connects the addressed cell to the DAC, from LOAD or SETTLE alike; SLOT_COMPLETION leaves the cell on the DAC's
code, clears the slot's marks and begins the next slot in LOAD, whose code comes from the path of its channel (R46, R54 to R60,
R65 to R67). A computed pitch or cutoff sets the clamp mark and the clamp note of its channel to whether it had to be clamped,
an override clears its oscillator's, and nothing else of a voice changes but what a pitch slot's completion does to its gate
(R52, R56, R57). A slot that delivered the current override of its oscillator moves the channel that waits for it from DELIVERY
to SETTLE with the job's settle time (R71, R158). That HSTB_RISE is taken in LOAD as in SETTLE, and SLOT_COMPLETION in any
phase, is the model's choice (log entry 11). -/
def Obligations.SlotsFollowRotation : Prop :=
  ∀ s : State, s.running = true →
    exec .hstbRise s = .next { s with refresh := { s.refresh with
      cells := s.refresh.cells.set s.refresh.slot s.refresh.dac, phase := .hold } } ∧
      ∃ t, exec .slotCompletion s = .next t ∧
        (t.powered = s.powered ∧ t.resetLow = s.resetLow ∧ t.assigner = s.assigner ∧ t.params = s.params ∧
          t.scanner = s.scanner ∧ t.matrix = s.matrix ∧ t.memory = s.memory ∧ t.link = s.link ∧ t.pending = s.pending) ∧
        (t.refresh.slot = s.refresh.slot + 1 ∧ t.refresh.phase = .load ∧ t.refresh.stale = false ∧
          t.refresh.cells = s.refresh.cells.set s.refresh.slot s.refresh.dac) ∧
        (t.table = { s.table with voices := t.table.voices } ∧ t.tune = { s.tune with channels := t.tune.channels }) ∧
        (2 ≤ s.refresh.slot.val % 6 → t.tune = s.tune ∧ ∀ u, (t.voice u).gate = (s.voice u).gate ∧
          (t.voice u).trigger = (s.voice u).trigger ∧ (t.voice u).trigPin = (s.voice u).trigPin ∧
          (t.voice u).refreshedA = (s.voice u).refreshedA ∧ (t.voice u).refreshedB = (s.voice u).refreshedB) ∧
        (let o := slotOscillator s.refresh.slot
         let delivers := s.refresh.slot.val % 6 < 2 ∧ s.refresh.carried = true ∧ s.refresh.overrides[o].valid = true ∧
           s.refresh.overrides[o].loadPending = false
         (∀ c d : Fin 4, s.tune.channels[c].osc = some o → s.tune.channels[d].osc = some o → c = d) →
          ∀ c : Fin 4, t.tune.channels[c] =
            let ch := s.tune.channels[c]
            match s.tune.job with
            | some j => if delivers ∧ ch.osc = some o ∧ ch.phase = .delivery then { ch with phase := .settle, timer := j.settle } else ch
            | none => ch) ∧
        let n := (s.refresh.slot + 1 : Fin 48)
        let v := slotVoice n
        let osc := slotOscillator n
        let taken := (s.voice v).state = .tuning ∧ s.refresh.overrides[osc].valid = true
        let pitch := rawPitch s v (decide (n.val % 6 = 1))
        let code := mapCode (fun k => s.tune.table[osc][k].entry) (max 0 (min 32767 pitch))
        let g : Int := (((s.voice v).glide.getD 15360 : Nat) : Int)
        let cutoff := (s.param 4 : Int) * 16 + Int.fdiv ((g - 15360) * (s.param 5 : Int)) 2048 +
          (((s.voice v).velocity * s.param 6 / 127 : Nat) : Int)
        let clamps := fun (x top : Int) => decide (x < 0 ∨ top < x)
        (∀ u, t.voice u = { s.voice u with
          gate := (t.voice u).gate, trigger := (t.voice u).trigger, trigPin := (t.voice u).trigPin
          refreshedA := (t.voice u).refreshedA, refreshedB := (t.voice u).refreshedB
          pitchAClamped := if u = v ∧ n.val % 6 = 0 then decide (¬ taken) && clamps pitch 32767 else (s.voice u).pitchAClamped
          noteA := if u = v ∧ n.val % 6 = 0 then decide (¬ taken) && clamps code 65535 else (s.voice u).noteA
          pitchBClamped := if u = v ∧ n.val % 6 = 1 then decide (¬ taken) && clamps pitch 32767 else (s.voice u).pitchBClamped
          noteB := if u = v ∧ n.val % 6 = 1 then decide (¬ taken) && clamps code 65535 else (s.voice u).noteB
          noteCutoff := if u = v ∧ n.val % 6 = 2 then clamps cutoff 65535 else (s.voice u).noteCutoff }) ∧
          (n.val % 6 < 2 → taken → t.refresh.dac = s.refresh.overrides[osc].code ∧ t.refresh.carried = true ∧
            t.refresh.overrides[osc] = { s.refresh.overrides[osc] with loadPending := false } ∧
            ∀ q, q ≠ osc → t.refresh.overrides[q] = s.refresh.overrides[q]) ∧
          (n.val % 6 < 2 → ¬ taken → (t.refresh.dac : Int) = max 0 (min 65535 code) ∧ t.refresh.carried = false ∧
            t.refresh.overrides = s.refresh.overrides) ∧
          (n.val % 6 = 2 → (t.refresh.dac : Int) = max 0 (min 65535 cutoff)) ∧
          (n.val % 6 = 3 → t.refresh.dac =
            if (s.voice v).state = .tuning ∨ (s.voice v).state = .off then 0
            else 65535 - (127 - (s.voice v).velocity) * s.param 7 * 16 / 127) ∧
          (4 ≤ n.val % 6 → t.refresh.dac = s.param (globalParam n) * 16 + s.param (globalParam n) / 256) ∧
          (2 ≤ n.val % 6 → t.refresh.carried = false ∧ t.refresh.overrides = s.refresh.overrides)

/-- A pitch slot's completion sets the refreshed mark of its channel unless a note start fell into the slot, and raises an ARMED
gate when both marks stand: the trigger pulse then starts with the width in effect (R8, R10, R69, R70). No other voice's gate,
marks or pulse move. -/
def Obligations.GateRisesOnPitch : Prop :=
  ∀ s : State, s.running = true → s.refresh.slot.val % 6 < 2 →
    let v := slotVoice s.refresh.slot
    let isB := decide (s.refresh.slot.val % 6 = 1)
    let x := s.voice v
    ∃ t, exec .slotCompletion s = .next t ∧
      (∀ u, u ≠ v ∨ s.refresh.stale = true →
        (t.voice u).gate = (s.voice u).gate ∧ (t.voice u).trigger = (s.voice u).trigger ∧
          (t.voice u).trigPin = (s.voice u).trigPin ∧ (t.voice u).refreshedA = (s.voice u).refreshedA ∧
          (t.voice u).refreshedB = (s.voice u).refreshedB) ∧
      (s.refresh.stale = false →
        let a := x.refreshedA || !isB
        let b := x.refreshedB || isB
        let rises := x.gate = .armed ∧ a = true ∧ b = true
        (t.voice v).refreshedA = a ∧ (t.voice v).refreshedB = b ∧
          (t.voice v).gate = (if rises then .high else x.gate) ∧
          (t.voice v).trigger = (if rises then s.assigner.setup.width else x.trigger) ∧
          (t.voice v).trigPin = (if rises then true else x.trigPin))

/-- GAP_EXPIRY (R9), TRIGGER_EXPIRY (R10), BLINK_PHASE_CHANGE (R122), SETTLE_EXPIRY (R158), each at the moment its timer has run
out, and MORPH_END (R84) of a record whose next step reaches the morph length, change exactly what their rules name. That an
expiry is a command of its own is the model's form (log entry 6). -/
def Obligations.TimersExpire : Prop :=
  ∀ s : State, s.running = true →
    (∀ v : Fin 8, (s.voice v).gate = .gap → (s.voice v).gap = 0 →
      let x := s.voice v
      let plays := x.state = .sounding ∨ x.state = .sustained
      let rises := plays ∧ x.refreshedA = true ∧ x.refreshedB = true
      exec (.gapExpiry v) s = .next (modVoice v (fun _ => { x with
        gate := if rises then .high else if plays then .armed else .low
        trigger := if rises then s.assigner.setup.width else x.trigger
        trigPin := if rises then true else x.trigPin }) s)) ∧
      (∀ v : Fin 8, (s.voice v).trigger = 0 →
        exec (.triggerExpiry v) s = .next (modVoice v (fun x => { x with trigPin := false }) s)) ∧
      (s.matrix.blinkRemaining = 0 →
        exec .blinkPhaseChange s = .next { s with matrix := { s.matrix with
          blinkOn := !s.matrix.blinkOn
          blinkRemaining := if s.matrix.blinkOn then s.matrix.offTime else s.matrix.onTime } }) ∧
      (∀ c : Fin 4, s.tune.channels[c].phase = .settle → s.tune.channels[c].timer = 0 →
        exec (.settleExpiry c) s = .next (modChannel c (fun ch => { ch with phase := .firstEdge, timer := 200 }) s)) ∧
      ∀ (p : Fin 64) (m : Morph) (len : Nat), s.params.records[p].morph = some m → s.params.morphLength = some len →
        len ≤ m.elapsed + 1 →
        let records := upd s.params.records p fun r => { r with value := r.target, morph := none }
        exec (.morphEnd p) s = .next { s with params := { s.params with
          records := records
          morphLength := if ∃ q : Fin 64, records[q].morph ≠ none then some len else none } }

/-- RELEASE_END (R13, R33): a RELEASING voice whose hold has run out leaves the release order list and becomes FREE; with
returning on in POLY the newest waiting key takes it by a note start at stack position 0. Reserved it becomes TUNING and is
announced as taken: its mark is TAKEN, the wait ends with the last reserved voice, and its two channels start with their first
codes (R154, R155, R163). That the counters of a channel stand at 0 as its trial begins is the model's choice (log entry 44). -/
def Obligations.ReleaseEnds : Prop :=
  ∀ (v : Fin 8) (s : State), s.running = true → (s.voice v).state = .releasing → (s.voice v).release = 0 →
    let order := s.table.releaseOrder.filter (· ≠ v)
    ((s.voice v).reserved = false →
      (s.assigner.setup.mode = .mono ∨ s.assigner.setup.returning = false ∨ s.assigner.waiting = []) →
      exec (.releaseEnd v) s = .next { s with table := { s.table with
        releaseOrder := order, voices := upd s.table.voices v fun x => x.cutTo .free } }) ∧
      ((s.voice v).reserved = true →
        ∃ t, exec (.releaseEnd v) s = .next t ∧ t.table = { s.table with
            releaseOrder := order, voices := upd s.table.voices v fun x => { x.cutTo .tuning with reserved := false } } ∧
          SamePlayFrame s t ∧ t.assigner = s.assigner ∧ t.link = s.link ∧
          t = State.took { s with table := t.table } v) ∧
      ∀ (w : Nat) (e : KeyEntry), (s.voice v).reserved = false → s.assigner.setup.mode = .poly →
        s.assigner.setup.returning = true → s.assigner.waiting.getLast? = some w → e ∈ s.assigner.keyList → e.key = w →
        (s.assigner.keyList.map KeyEntry.key).Nodup →
        ∃ t, exec (.releaseEnd v) s = .next t ∧ SamePlayFrame s t ∧ t.link = s.link ∧ t.tune = s.tune ∧
          (t.voice v).sounds w = true ∧ (t.voice v).velocity = e.velocity ∧ (t.voice v).stackPos = 0 ∧
          t.table.releaseOrder = order ∧ t.assigner.waiting = s.assigner.waiting.filter (· ≠ w) ∧
          { e with voices := [v] } ∈ t.assigner.keyList ∧ (∀ u, u ≠ v → t.voice u = s.voice u) ∧
          t = State.returned (heldKeys s) [v] { s with table := { s.table with
            releaseOrder := order, voices := upd s.table.voices v fun x => x.cutTo .free } }

/-- TICK (R6, R61, R84, R122, R155, R158, and R128 for the store): every running timer loses 1, every glide makes its step at
the rate of parameter 3 as it stood before the tick, every morph makes its step or, where its elapsed count reaches the length,
ends on its target, the length with the last of them, and nothing else moves but bits of the store that have changed of
themselves. A timer that reaches 0 has its expiry as an event of its own (log entry 6). -/
def Obligations.TickAdvances : Prop :=
  ∀ (drift : List BlockBits) (s : State), s.running = true →
    let rate := 32768 / (s.param 3 + 1)
    ∃ t, exec (.tick drift) s = .next t ∧
      (∀ v, t.voice v = { s.voice v with
        gap := (s.voice v).gap - 1, trigger := (s.voice v).trigger - 1, release := (s.voice v).release - 1
        glide := match (s.voice v).glide, (s.voice v).glideTarget with
          | some g, some q => some (if g < q then min (g + rate) q else max (g - rate) q)
          | g, _ => g }) ∧
      (t.table.startOrder = s.table.startOrder ∧ t.table.releaseOrder = s.table.releaseOrder ∧ t.table.rotate = s.table.rotate) ∧
      (∀ p : Fin 64, t.params.records[p] = match s.params.records[p].morph, s.params.morphLength with
        | some m, some len =>
          if m.elapsed + 1 < len then { s.params.records[p] with
            value := ((m.start : Int) +
              Int.tdiv (((s.params.records[p].target : Int) - m.start) * (m.elapsed + 1 : Nat)) (len : Int)).toNat
            morph := some { m with elapsed := m.elapsed + 1 } }
          else { s.params.records[p] with value := s.params.records[p].target, morph := none }
        | _, _ => s.params.records[p]) ∧
      t.params = { s.params with
        records := t.params.records
        morphLength := if ∃ p : Fin 64, t.params.records[p].morph ≠ none then s.params.morphLength else none } ∧
      t.matrix = { s.matrix with blinkRemaining := s.matrix.blinkRemaining - 1 } ∧
      (∀ c : Fin 4, t.tune.channels[c] =
        let ch := s.tune.channels[c]
        if ch.phase = .settle ∨ ch.phase = .firstEdge ∨ ch.phase = .counting then { ch with timer := ch.timer - 1 } else ch) ∧
      t.tune = { s.tune with channels := t.tune.channels, job := s.tune.job.map fun j => { j with wait := j.wait - 1 } } ∧
      t.memory = { s.memory with store := driftBlocks drift s.memory.store } ∧
      (t.powered = s.powered ∧ t.resetLow = s.resetLow ∧ t.assigner = s.assigner ∧ t.refresh = s.refresh ∧
        t.scanner = s.scanner ∧ t.link = s.link ∧ t.pending = s.pending)

/-! ### Codes and offsets -/

/-- The fine offsets, the interval of oscillator B, the spread and the bend offset (R48 to R51): (v - 2048) / 8 truncated; ((v2
× 49) div 4096) - 24 semitones, in bands of 83 or 84 consecutive values; ((2j - (S - 1)) × v9) / 256 truncated, symmetric over
the positions of a stack and within -111..223; and b × R / 32 rounded half away from zero, the last two the same for both
oscillators of a voice. -/
def Obligations.PitchOffsets : Prop :=
  ((∀ (s : State) (v : Fin 8),
      rawPitch s v false = (((s.voice v).glide.getD 15360 : Nat) : Int) + Int.tdiv ((s.param 0 : Int) - 2048) 8 +
          spreadOffset (s.voice v).stackPos s.assigner.setup.stack (s.param 9) +
          bendOffset s.assigner.bend s.assigner.setup.bendRange ∧
        rawPitch s v true = (((s.voice v).glide.getD 15360 : Nat) : Int) + Int.tdiv ((s.param 1 : Int) - 2048) 8 +
          intervalSemitones (s.param 2) * 256 + spreadOffset (s.voice v).stackPos s.assigner.setup.stack (s.param 9) +
          bendOffset s.assigner.bend s.assigner.setup.bendRange) ∧
      (∀ v : Nat, fineOffset v = Int.tdiv ((v : Int) - 2048) 8) ∧
      (∀ v : Nat, v ≤ 4095 → -256 ≤ fineOffset v ∧ fineOffset v ≤ 255 ∧ (fineOffset v = 0 ↔ 2041 ≤ v ∧ v ≤ 2055)) ∧
      fineOffset 2048 = 0 ∧ fineOffset 2100 = 6 ∧ fineOffset 1990 = -7) ∧
  ((∀ (s : State) (v : Fin 8) (f : Param → Param),
      rawPitch s v true = rawPitch s v false + (fineOffset (s.param 1) - fineOffset (s.param 0)) +
          ((s.param 2 * 49 / 4096 : Nat) - 24 : Int) * 256 ∧
        rawPitch (modParam 2 f s) v false = rawPitch s v false) ∧
      (∀ v : Nat, v ≤ 4095 → -24 ≤ intervalSemitones v ∧ intervalSemitones v ≤ 24) ∧
      intervalSemitones 2048 = 0 ∧ intervalSemitones 2600 = 7 ∧ intervalSemitones 4095 = 24 ∧ intervalSemitones 0 = -24 ∧
      ∀ k : Int, -24 ≤ k → k ≤ 24 → ∃ a n : Nat, (n = 83 ∨ n = 84) ∧ a + n ≤ 4096 ∧
        ∀ v : Nat, v ≤ 4095 → (intervalSemitones v = k ↔ a ≤ v ∧ v < a + n)) ∧
  ((∀ j stack v9 : Nat, spreadOffset j stack v9 = Int.tdiv ((2 * (j : Int) - ((stack : Int) - 1)) * (v9 : Int)) 256) ∧
      (∀ j stack v9 : Nat, j < stack → spreadOffset (stack - 1 - j) stack v9 = -spreadOffset j stack v9) ∧
      (∀ j stack v9 : Nat, j ≤ 7 → 1 ≤ stack → stack ≤ 8 → v9 ≤ 4095 →
        -111 ≤ spreadOffset j stack v9 ∧ spreadOffset j stack v9 ≤ 223) ∧
      (List.range 2).map (spreadOffset · 2 4095) = [-15, 15] ∧ (List.range 4).map (spreadOffset · 4 4095) = [-47, -15, 15, 47] ∧
      (List.range 8).map (spreadOffset · 8 4095) = [-111, -79, -47, -15, 15, 47, 79, 111] ∧
      spreadOffset 7 1 4095 = 223) ∧
  ((∀ (b : Int) (r : Nat), 2 * (32 * (bendOffset b r).natAbs) ≤ 2 * (b * r).natAbs + 32 ∧
      2 * (b * r).natAbs + 32 < 2 * (32 * ((bendOffset b r).natAbs + 1)) ∧ bendOffset (-b) r = -bendOffset b r ∧
      (0 ≤ b → 0 ≤ bendOffset b r)) ∧
      (∀ (b : Int) (r : Nat), -8192 ≤ b → b ≤ 8191 → r ≤ 24 → -6144 ≤ bendOffset b r ∧ bendOffset b r ≤ 6143) ∧
      (∀ b : Int, bendOffset b 0 = 0) ∧ (∀ r : Nat, bendOffset 8192 r = r * 256) ∧
      (bendOffset 4096 2 = 256 ∧ bendOffset 8191 2 = 512 ∧ bendOffset (-8192) 2 = -512 ∧ bendOffset 8 2 = 1 ∧
        bendOffset (-8) 2 = -1 ∧ bendOffset (-1000) 2 = -63 ∧ bendOffset 8191 24 = 6143 ∧ bendOffset (-8192) 24 = -6144) ∧
      ∀ (s : State) (v : Fin 8) (isB : Bool) (b : Int) (r : Nat),
        rawPitch { s with assigner := { s.assigner with bend := b, setup := { s.assigner.setup with bendRange := r } } } v isB =
          rawPitch { s with assigner := { s.assigner with bend := 0 } } v isB + bendOffset b r)

/-- The voltage map (R54, R55): the segment is floor(Q / 3072) clamped to 0..6 with Q = P - 6144, the code is E[k] and the part
n / 3072 rounded half up, each segment ends on its own entries, and a pitch slot loads the code clamped to 0..65535. -/
def Obligations.VoltageMap : Prop :=
  (∀ (e : Fin 8 → Nat) (p : Int), 0 ≤ p → p ≤ 32767 →
    let k := max 0 (min 6 (Int.fdiv (p - 6144) 3072))
    let f := p - 6144 - 3072 * k
    ∃ i : Fin 7, (i.val : Int) = k ∧ segmentOf p = i.val ∧
      mapCode e p = e i.castSucc + Int.fdiv (((e i.succ : Int) - e i.castSucc) * f + 1536) 3072 ∧
      (p < 6144 → i.val = 0 ∧ f = p - 6144) ∧ (6144 ≤ p → p < 24576 → 0 ≤ f ∧ f ≤ 3071) ∧
      (24576 ≤ p → i.val = 6 ∧ 0 ≤ f ∧ f ≤ 8191)) ∧
    (∀ (e : Fin 8 → Nat) (k : Fin 8), mapCode e (6144 + 3072 * (k.val : Int)) = e k) ∧
    ∀ (s : State) (v : Fin 8) (isB : Bool), (s.voice v).state ≠ .tuning →
      let o := if isB then oscB v else oscA v
      let slot : Fin 48 := ⟨6 * v.val + (if isB then 1 else 0), by cases isB <;> simp <;> omega⟩
      let p := max 0 (min 32767 (rawPitch s v isB))
      ((startSlot { s with refresh := { s.refresh with slot := slot } }).refresh.dac : Int) =
        max 0 (min 65535 (mapCode (fun k => s.tune.table[o][k].entry) p))

/-- The level and the global outputs (R59, R60): a LEVEL(v) slot loads 0 for a TUNING or OFF voice and 65535 - ((127 - velocity)
× v7 × 16) div 127 otherwise, which lies in 531..65535; a GLOBAL(i) slot loads v × 16 + (v div 256), v the value of parameter 16
+ i, whatever the voices and the setup: 0..4095 maps onto 0..65535, consecutive values 16 or 17 codes apart. -/
def Obligations.LevelAndGlobalCodes : Prop :=
  (∀ (s : State) (v : Fin 8), let slot : Fin 48 := ⟨6 * v.val + 3, by omega⟩
    let x := s.voice v
    let code := 65535 - ((127 - x.velocity) * s.param 7 * 16) / 127
    startSlot { s with refresh := { s.refresh with slot := slot } } =
        { s with refresh := { s.refresh with
          slot := slot, phase := .load, carried := false, stale := false
          dac := if x.state = .tuning ∨ x.state = .off then 0 else code } } ∧
      (1 ≤ x.velocity → x.velocity ≤ 127 → s.param 7 ≤ 4095 → 531 ≤ code) ∧
      (s.param 7 = 0 ∨ x.velocity = 127 → code = 65535)) ∧
    (∀ (s : State) (i : Fin 16), let slot : Fin 48 := ⟨6 * (i.val / 2) + 4 + i.val % 2, by omega⟩
      let v := s.param ⟨16 + i.val, by omega⟩
      startSlot { s with refresh := { s.refresh with slot := slot } } =
        { s with refresh := { s.refresh with
          slot := slot, phase := .load, dac := v * 16 + v / 256, carried := false, stale := false } }) ∧
      globalCode 0 = 0 ∧ globalCode 2048 = 32776 ∧ globalCode 4095 = 65535 ∧
      ∀ v : Nat, v < 4095 → globalCode v ≤ 65535 ∧ (globalCode (v + 1) = globalCode v + 16 ∨ globalCode (v + 1) = globalCode v + 17)

/-! ### Parameters, knobs and the panel -/

/-- SET_PARAM (R81, R84, R100): value and target take the clamped value, the source is LINK, the record's morph ends and with
the last one the morph length, the edited flag is set, and a seeded CATCH knob mapped to the parameter is re-evaluated. -/
def Obligations.SetParamWrites : Prop :=
  ∀ (index : Byte) (p : Fin 64) (value : BitVec 16) (s : State), s.takes → index.toNat = p.val →
    let v := min 4095 value.toNat
    let d := s.scanner.inEffect.deadband
    let records := upd s.params.records p fun _ => { value := v, target := v, source := .link, morph := none }
    exec (.setParam index value) s = .next (State.answered 0x28 [0x00] { s.received with
      params := { s.params with
        records := records
        morphLength := if ∃ q : Fin 64, records[q].morph ≠ none then s.params.morphLength else none
        edited := true }
      scanner := { s.scanner with
        knobs := tab fun k =>
          let x := s.scanner.knobs[k]
          if s.scanner.mode = .catch ∧ x.seeded = true ∧ x.mapping = some p then
            { x with pickup := if x.reported + d < v then .waitRise else if v + d < x.reported then .waitFall else .locked }
          else x } })

/-- The requests that set one setting each take it, clamped where their rules clamp, answer DONE and change nothing else:
SET_MORPH_TIME (R88), SET_KNOB_SCAN (R104), SET_DEBOUNCE (R119), SET_BLINK (R122), SET_POWER_ON_SLOT (R142), SET_REFERENCE
(R149), SET_TUNE_DEFAULTS (R150) and SET_REPORT_MASK (R180). -/
def Obligations.SettingRequests : Prop :=
  ∀ s : State, s.takes →
    let done := fun (kind : Byte) (t : State) => Host.Outcome.next (State.answered kind [0x00] t)
    (∀ time : BitVec 16, exec (.setMorphTime time) s = done 0x2A { s.received with
      params := { s.params with morphTime := min 2000 time.toNat, edited := true } }) ∧
      (∀ (banks offset : Byte) (deadband : BitVec 16), exec (.setKnobScan banks offset deadband) s = done 0x32 { s.received with
        scanner := { s.scanner with requested :=
          { banks := banks.truncate 6, offset := max (-64) (min 63 offset.toInt), deadband := min 255 deadband.toNat } } }) ∧
      (∀ depth : Byte, depth = 1 ∨ depth = 2 ∨ depth = 4 ∨ depth = 8 →
        exec (.setDebounce depth) s = done 0x39 { s.received with matrix := { s.matrix with debounce := depth.toNat } }) ∧
      (∀ onTime offTime : BitVec 16, exec (.setBlink onTime offTime) s = done 0x3D { s.received with matrix := { s.matrix with
        onTime := max 50 (min 2000 onTime.toNat), offTime := max 50 (min 2000 offTime.toNat) } }) ∧
      (∀ slot : Byte, slot.toNat ≤ 127 →
        exec (.setPowerOnSlot slot) s = done 0x47 { s.received with memory := { s.memory with powerOnSlot := slot.toNat } }) ∧
      (∀ value : BitVec 32, 200000 ≤ value.toNat → value.toNat ≤ 420000 →
        exec (.setReference value) s =
          if s.tune.job = none then done 0x52 { s.received with tune := { s.tune with reference := value.toNat } }
          else .next (State.answered 0x52 [0x02] s.received)) ∧
      (∀ b : DefaultsBytes, b.depth.toNat ≤ 1 → b.force.toNat ≤ 1 → b.save.toNat ≤ 1 → b.disableFailed.toNat ≤ 1 →
        b.hysteresis.toNat ≤ 1 → b.polarity.toNat ≤ 1 →
        exec (.setTuneDefaults b) s = done 0x53 { s.received with tune := { s.tune with defaults :=
          { scope := b.scope, depth := if b.depth = 0 then .fine else .full, force := decide (b.force = 1),
            save := decide (b.save = 1), disableFailed := decide (b.disableFailed = 1),
            settle := max 1 (min 50 b.settle.toNat), hysteresis := decide (b.hysteresis = 1),
            polarity := if b.polarity = 0 then .rising else .falling } } }) ∧
      (∀ (flags : BitVec 88) (mask : BitVec 11),
        (∀ i : Fin 11, flags.extractLsb' (8 * i.val) 8 = if mask.getLsbD i.val then 1 else 0) →
        exec (.setReportMask flags) s = done 0x5A { s.received with link := { s.link.received with mask := mask } }) ∧
      ∀ (flags : BitVec 88) (i : Fin 11), 1 < (flags.extractLsb' (8 * i.val) 8).toNat →
        exec (.setReportMask flags) s = .next (State.answered 0x5A [0x03] s.received)

/-- MAP_KNOB (R98) and SET_PICKUP_MODE (R99): a knob that is mapped takes the parameter from any other knob, which becomes
unmapped and LOCKED, and its own pickup state from the target in CATCH; the change to JUMP locks every knob. -/
def Obligations.KnobMapping : Prop :=
  ∀ s : State, s.takes →
    let done := fun (kind : Byte) (x : Scanner) => Host.Outcome.next (State.answered kind [0x00] { s.received with scanner := x })
    let knobs := s.scanner.knobs
    (∀ (knob : Byte) (i : Fin 48), knob.toNat = i.val →
      exec (.mapKnob knob 0xFF) s = done 0x30 { s.scanner with
        knobs := upd knobs i fun x => { x with mapping := none, pickup := .locked } } ∧
      (∀ (param : Byte) (p : Fin 64), param.toNat = p.val →
        let d := s.scanner.inEffect.deadband
        let target := s.params.records[p].target
        exec (.mapKnob knob param) s = done 0x30 { s.scanner with
          knobs := tab fun j =>
            let x := knobs[j]
            if j = i then
              { x with
                mapping := some p
                pickup :=
                  if s.scanner.mode = .jump ∨ x.seeded = false then .locked
                  else if x.reported + d < target then .waitRise
                  else if target + d < x.reported then .waitFall
                  else .locked }
            else if x.mapping = some p then { x with mapping := none, pickup := .locked }
            else x }) ∧
      ∀ param : Byte, 63 < param.toNat → param ≠ 0xFF →
        exec (.mapKnob knob param) s = .next (State.answered 0x30 [0x03] s.received)) ∧
      exec (.setPickupMode 1) s = done 0x31 { s.scanner with mode := .catch } ∧
      exec (.setPickupMode 0) s = done 0x31 { s.scanner with
        mode := .jump
        knobs := if s.scanner.mode = .jump then knobs else tab fun j => { knobs[j] with pickup := .locked } }

/-- SET_SWITCH (R119), SET_GROUP (R120), SET_LAMPS and SET_LAMP_BINDING (R123): what the codes of section 11.2 name is stored, a
group's previous truth becomes false, DONE is the reply and nothing else changes. -/
def Obligations.PanelRequests : Prop :=
  ∀ s : State, s.takes →
    let done := fun (kind : Byte) (x : Matrix) => Host.Outcome.next (State.answered kind [0x00] { s.received with matrix := x })
    let m := s.matrix
    (∀ (switch spec action slot : Byte) (i : Fin 64) (sp : ReportSpec) (a : Action),
      switch.toNat = i.val → spec.toNat = specCode sp → action.toNat = actionCode a →
      (∀ n, a = .recall n → n = slot.toNat ∧ n ≤ 127) →
      exec (.setSwitch switch spec action slot) s =
        done 0x38 { m with switches := upd m.switches i fun x => { x with spec := sp, action := a } }) ∧
      (∀ (switch spec action slot : Byte), 3 < spec.toNat ∨ 6 < action.toNat ∨ (action = 1 ∧ 127 < slot.toNat) →
        exec (.setSwitch switch spec action slot) s = .next (State.answered 0x38 [0x03] s.received)) ∧
      (∀ (group latched action slot : Byte) (conditions : BitVec 192) (g : Fin 4) (cs : Vector Condition 64) (l : Bool) (a : Action),
        group.toNat = g.val → (∀ i : Fin 64, (conditions.extractLsb' (3 * i.val) 3).toNat = conditionCode cs[i]) →
        latched = (if l then 1 else 0) → action.toNat = actionCode a → a ≠ .pedal →
        (∀ n, a = .recall n → n = slot.toNat ∧ n ≤ 127) →
        exec (.setGroup group conditions latched action slot) s =
          done 0x3A { m with groups := m.groups.set g { conditions := cs, latched := l, action := a, previous := false } }) ∧
      (∀ (group latched action slot : Byte) (conditions : BitVec 192),
        (∃ i : Fin 64, 5 < (conditions.extractLsb' (3 * i.val) 3).toNat) ∨ 1 < latched.toNat ∨ action = 4 ∨ 6 < action.toNat →
        exec (.setGroup group conditions latched action slot) s = .next (State.answered 0x3A [0x03] s.received)) ∧
      (∀ (mask : BitVec 64) (states : BitVec 128) (new : Fin 64 → LampState),
        (∀ i : Fin 64, mask.getLsbD i.val = true → (states.extractLsb' (2 * i.val) 2).toNat = lampStateCode (new i)) →
        exec (.setLamps mask states) s = done 0x3B { m with
          lamps := tab fun i => if mask.getLsbD i.val then { m.lamps[i] with state := new i } else m.lamps[i] }) ∧
      (∀ (mask : BitVec 64) (states : BitVec 128) (i : Fin 64), mask.getLsbD i.val = true → states.extractLsb' (2 * i.val) 2 = 3 →
        exec (.setLamps mask states) s = .next (State.answered 0x3B [0x03] s.received)) ∧
      (∀ (lamp binding : Byte) (i : Fin 64) (b : LampBinding), lamp.toNat = i.val → binding.toNat = bindingCode b →
        exec (.setLampBinding lamp binding) s = done 0x3C { m with lamps := upd m.lamps i fun x => { x with binding := b } }) ∧
      ∀ (lamp binding : Byte), 2 < binding.toNat →
        exec (.setLampBinding lamp binding) s = .next (State.answered 0x3C [0x03] s.received)

/-- The requests that read answer DONE and the data of section 11.4 and change nothing, but that MEMORY_STATUS and LINK_STATS
reset their counts behind the snapshot: GET_VOICE (R17), GET_PARAM (R89), GET_KNOB (R105), GET_SWITCH and GET_PANEL (R124),
MEMORY_STATUS (R143), GET_TUNING (R167), LINK_STATS (R174) and GET_STATUS (R182). Each layout is written out, with the codes of
section 11.2 and the byte order of R185. That a lamp's shown state is the one its inputs give at the request is the model's
choice (log entry 40). -/
def Obligations.ReadRequests : Prop :=
  ((∀ n : Nat, word16 n = [byteOf n, byteOf (n / 256)] ∧ optByte (some n) = byteOf n ∧ optWord16 (some n) = word16 n ∧
      bytesLE 4 n = [byteOf n, byteOf (n / 256), byteOf (n / 65536), byteOf (n / 16777216)]) ∧
    (optByte none = 0xFF ∧ optWord16 none = [0xFF, 0xFF]) ∧
    (∀ x : Int, signed16 x = word16 (x % 65536).toNat) ∧
    [VoiceState.off, .free, .sounding, .sustained, .releasing, .tuning].map voiceStateCode = [0, 1, 2, 3, 4, 5] ∧
    [GatePhase.low, .gap, .armed, .high].map gateCode = [0, 1, 2, 3] ∧
    [ParamSource.default, .recall, .panel, .link].map sourceCode = [0, 1, 2, 3] ∧
    [PickupState.locked, .waitRise, .waitFall].map pickupStateCode = [0, 1, 2] ∧
    [PickupMode.jump, .catch].map pickupModeCode = [0, 1] ∧
    [ReportSpec.none, .press, .release, .both].map specCode = [0, 1, 2, 3] ∧
    (∀ n, [Action.none, .recall n, .next, .prev, .pedal, .tune, .storeCurrent].map actionCode = [0, 1, 2, 3, 4, 5, 6]) ∧
    [Condition.ignore, .isDown, .isUp, .pressed, .released, .changed].map conditionCode = [0, 1, 2, 3, 4, 5] ∧
    [LampState.off, .on, .blink].map lampStateCode = [0, 1, 2] ∧ [LampBinding.none, .edited, .tuning].map bindingCode = [0, 1, 2] ∧
    [TuneStatus.untuned, .ok, .outLow, .outHigh, .noSignal].map statusCode = [0x10, 0x11, 0x12, 0x13, 0x14] ∧
    [OpKind.recall, .stepRecall, .store, .patchWrite, .patchRead, .patchInfo, .protect, .tuningSave, .setupSave].map opKindCode =
      [1, 2, 3, 4, 5, 6, 7, 8, 9] ∧
    (∀ n, [PanelOp.recall n, .next, .prev, .storeCurrent].map panelOpCode = [1, 2, 3, 4] ∧
      [PanelOp.recall n, .next, .prev, .storeCurrent].map panelOpSlot = [n, 0, 0, 0])) ∧
  ∀ s : State, s.running = true → s.link.replies.length < 8 →
    let sent := fun (kind : Byte) (data : List Byte) => Host.Outcome.next (State.answered kind (0x00 :: data) s.received)
    let bit := fun (b : Bool) (weight : Nat) => if b then weight else 0
    let flag := fun b : Bool => if b then (1 : Byte) else 0
    let slotOf := fun a : Action => match a with
      | .recall n => byteOf n
      | _ => (0 : Byte)
    (s.memory.ready = true →
      (∀ (a : Byte) (v : Fin 8), a.toNat = v.val →
        let x := s.voice v
        exec (.getVoice a) s = sent 0x21
          ([byteOf (voiceStateCode x.state),
            byteOf (bit x.reserved 1 + bit x.enabled 2 + bit x.refreshedA 4 + bit x.refreshedB 8 + bit x.pitchAClamped 16 +
              bit x.pitchBClamped 32 + bit (x.noteA || x.noteB || x.noteCutoff) 64),
            optByte x.key, optByte x.lastKey, byteOf x.velocity, byteOf x.stackPos] ++ optWord16 x.glide ++
            optWord16 x.glideTarget ++ [gateCode x.gate, byteOf x.trigger, byteOf x.gap] ++ word16 x.release ++
            [byteOf (s.table.startOrder.idxOf v), optByte (s.table.releaseOrder.idxOf? v)])) ∧
        (∀ (a : Byte) (p : Fin 64), a.toNat = p.val →
          let r := s.params.records[p]
          exec (.getParam a) s = sent 0x29 (word16 r.value ++ word16 r.target ++ [sourceCode r.source] ++
            match r.morph with
            | none => [0, 0xFF, 0xFF, 0xFF, 0xFF, 0xFF, 0xFF]
            | some x => 1 :: (word16 x.start ++ word16 x.elapsed ++ optWord16 s.params.morphLength))) ∧
        (∀ (a : Byte) (k : Fin 48), a.toNat = k.val →
          let x := s.scanner.knobs[k]
          let scan := fun y : ScanSettings => [byteOf y.banks.toNat, byteOf (y.offset % 256).toNat] ++ word16 y.deadband
          exec (.getKnob a) s = sent 0x33 (word16 x.raw ++ word16 x.filtered ++ word16 x.reported ++
            [if x.seeded then 1 else 0, optByte (x.mapping.map Fin.val), pickupStateCode x.pickup] ++
            scan s.scanner.inEffect ++ scan s.scanner.requested ++ [pickupModeCode s.scanner.mode] ++
            word16 s.scanner.supply)) ∧
        (∀ (a : Byte) (i : Fin 64), a.toNat = i.val →
          let x := s.matrix.switches[i]
          exec (.getSwitch a) s = sent 0x3E
            [byteOf (bit x.sensed 1 + bit x.stable 2 + bit x.candidate 4), byteOf x.count, byteOf (specCode x.spec),
              byteOf (actionCode x.action), slotOf x.action]) ∧
        (∀ stable : Nat, stable < 2 ^ 64 → (∀ i : Fin 64, stable.testBit i.val = s.matrix.switches[i].stable) →
          exec (.getPanel 0) s = sent 0x3F (0 :: (bytesLE 8 stable ++ [byteOf s.matrix.debounce] ++ word16 s.matrix.onTime ++
            word16 s.matrix.offTime ++ [flag s.matrix.blinkOn] ++ word16 s.matrix.blinkRemaining ++
            (List.finRange 64).map fun i =>
              let l := s.matrix.lamps[i]
              byteOf (lampStateCode l.state + 4 * bindingCode l.binding + bit (shownLit s l) 16)))) ∧
        (∀ (a : Byte) (g : Fin 4) (conditions : Nat), a.toNat = g.val + 1 → conditions < 2 ^ 192 →
          (∀ i : Fin 64, conditions / 8 ^ i.val % 8 = conditionCode s.matrix.groups[g].conditions[i]) →
          let x := s.matrix.groups[g]
          exec (.getPanel a) s = sent 0x3F (a :: (bytesLE 24 conditions ++
            [byteOf (bit x.latched 1 + bit x.previous 2), byteOf (actionCode x.action), slotOf x.action]))) ∧
        (∀ (a : Byte) (o : Fin 16), a.toNat = o.val →
          let point := fun k : Fin 8 => s.tune.table[o][k]
          exec (.getTuning a) s = sent 0x54 (bytesLE 4 s.tune.reference ++
            ((List.finRange 8).flatMap fun k => word16 (point k).entry) ++ ((List.finRange 8).map fun k => statusCode (point k).status) ++
            (List.finRange 8).flatMap fun k => signed16 (point k).residual)) ∧
        exec .memoryStatus s = .next (State.answered 0x48
          (0x00 :: byteOf s.memory.secCount :: (optWord16 s.memory.lastSec ++ optWord16 s.memory.lastDed ++
            [(s.memory.op.map fun op => opKindCode op.kind).getD 0, (s.memory.pendingPanel.map panelOpCode).getD 0,
              byteOf ((s.memory.pendingPanel.map panelOpSlot).getD 0), if s.memory.pendingTune then 1 else 0]))
          { s.received with memory := { s.memory with secCount := 0, lastSec := none, lastDed := none } })) ∧
      exec .linkStats s = .next (State.answered 0x58
        (0x00 :: (word16 (min 65535 (s.link.valid + 1)) ++
          [byteOf s.link.discarded,
            byteOf (bit s.link.flags.crcError 1 + bit s.link.flags.byteError 2 + bit s.link.flags.cut 4 +
              bit s.link.flags.timeout 8 + bit s.link.flags.overlong 16 + bit s.link.flags.overrun 32)]))
        { s.received with link := { s.link.received with valid := 0, discarded := 0, flags := LinkFlags.clear } }) ∧
      exec .getStatus s = sent 0x59
        ([flag s.memory.ready, optByte s.params.currentSlot, flag s.params.edited, flag s.assigner.pedalDown] ++
          signed16 s.assigner.bend ++ [byteOf s.assigner.keyList.length, byteOf s.assigner.waiting.length] ++
          ((List.finRange 8).map fun v => byteOf (voiceStateCode (s.voice v).state + bit (s.voice v).reserved 8)) ++
          (match s.tune.job with
            | none => [0, 0, 0]
            | some j => [if j.saving then 3 else if ∃ e ∈ j.marks, e.2 = .reserved then 1 else 2, byteOf j.round,
                byteOf j.rounds.length]) ++ [flag s.memory.op.isSome])

/-- KNOB_SETTLE_END (R93): the step's first enabled bank is converted, or the step ends; SUPPLY_CONVERSION_COMPLETE (R94, R97,
R106): the supply reading is taken and a frame starts, with the requested settings in effect and every knob of a bank that
leaves the enabled set unseeded. The point of the frame is a field of the model (log entry 16). -/
def Obligations.PanelFrameMoves : Prop :=
  ∀ s : State, s.running = true →
    let banks := s.scanner.inEffect.banks
    let stands := fun pos : ScanPos => Host.Outcome.next { s with scanner := { s.scanner with pos := pos } }
    (∀ (m : Fin 8) (b : Fin 6), s.scanner.pos = .settling m → banks.getLsbD b.val = true → (∀ c < b, banks.getLsbD c.val = false) →
      exec .knobSettleEnd s = stands (.converting m b)) ∧
      (∀ m : Fin 8, s.scanner.pos = .settling m → banks = 0 →
        exec .knobSettleEnd s = stands (if h : m.val + 1 < 8 then .settling ⟨m.val + 1, h⟩ else .supply)) ∧
      ∀ adc : BitVec 12, s.scanner.pos = .supply →
        exec (.supplyConversionComplete adc) s = .next { s with scanner := { s.scanner with
          supply := adc.toNat
          inEffect := s.scanner.requested
          pos := .settling 0
          knobs := tab fun i =>
            if banks.getLsbD (i.val / 8) = true ∧ s.scanner.requested.banks.getLsbD (i.val / 8) = false then
              { s.scanner.knobs[i] with seeded := false }
            else s.scanner.knobs[i] } }

/-- KNOB_CONVERSION_COMPLETE (R93, R95, R96, R101 to R103): an unseeded knob is seeded; a seeded one is filtered and snapped,
and when it has moved its value is reported, or written to its parameter where the knob is LOCKED or locks at this movement;
that write ends the record's morph, and with the last one the morph length (R77, R84). The point of the frame at which a
conversion stands is a field of the model (log entry 16). -/
def Obligations.KnobConverted : Prop :=
  ∀ (adc : BitVec 12) (m : Fin 8) (b : Fin 6) (i : Fin 48) (s : State),
    s.running = true → s.scanner.pos = .converting m b → i.val = 8 * b.val + m.val →
    let k := s.scanner.knobs[i]
    let d := s.scanner.inEffect.deadband
    let c := (max 0 (min 4095 ((adc.toNat : Int) + s.scanner.inEffect.offset))).toNat
    let f0 := (3 * k.filtered + c + 2) / 4
    let snap := (c = 0 ∨ c = 4095) ∧ f0 ≤ c + 1 ∧ c ≤ f0 + 1
    let f := if snap then c else f0
    let moved := k.seeded = true ∧ (f + d < k.reported ∨ k.reported + d < f ∨ (snap ∧ k.reported ≠ c))
    let masked := fun (n : Nat) (item : Report) (l : Link) => if s.link.mask.getLsbD n then admitItem item l else l
    ∃ t, exec (.knobConversionComplete adc) s = .next t ∧
      (∀ b', b < b' → s.scanner.inEffect.banks.getLsbD b'.val = true →
        (∀ c, b < c → c < b' → s.scanner.inEffect.banks.getLsbD c.val = false) → t.scanner.pos = .converting m b') ∧
      ((∀ b', b < b' → s.scanner.inEffect.banks.getLsbD b'.val = false) →
        t.scanner.pos = if h : m.val + 1 < 8 then .settling ⟨m.val + 1, h⟩ else .supply) ∧
      t.scanner = { s.scanner with pos := t.scanner.pos, knobs := t.scanner.knobs } ∧
      (∀ j, j ≠ i → t.scanner.knobs[j] = s.scanner.knobs[j]) ∧
      (t.powered = s.powered ∧ t.resetLow = s.resetLow ∧ t.table = s.table ∧ t.assigner = s.assigner ∧ t.refresh = s.refresh ∧
        t.matrix = s.matrix ∧ t.memory = s.memory ∧ t.tune = s.tune ∧ t.pending = s.pending) ∧
      (¬ moved → t.params = s.params ∧ t.link = s.link.sending ∧ t.scanner.knobs[i] =
        if k.seeded then { k with raw := adc.toNat, filtered := f }
        else { k with raw := adc.toNat, filtered := c, reported := c, seeded := true }) ∧
      (moved → s.memory.ready = false → t.params = s.params ∧ t.link = s.link.sending ∧
        t.scanner.knobs[i] = { k with raw := adc.toNat, filtered := f, reported := f }) ∧
      (moved → s.memory.ready = true → k.mapping = none → t.params = s.params ∧
        t.link = (masked 7 (.knobMoved i f) s.link).sending ∧
        t.scanner.knobs[i] = { k with raw := adc.toNat, filtered := f, reported := f }) ∧
      ∀ p : Fin 64, moved → s.memory.ready = true → k.mapping = some p →
        let locks := (k.pickup = .waitRise ∧ s.param p ≤ f + d) ∨ (k.pickup = .waitFall ∧ f ≤ s.param p + d)
        t.scanner.knobs[i] =
            { k with raw := adc.toNat, filtered := f, reported := f, pickup := if locks then .locked else k.pickup } ∧
          (k.pickup ≠ .locked → ¬ locks → t.params = s.params ∧ t.link = s.link.sending) ∧
          (k.pickup = .locked ∨ locks →
            t.params.records[p] = { value := f, target := f, source := .panel, morph := none } ∧
            (∀ q, q ≠ p → t.params.records[q] = s.params.records[q]) ∧
            t.params = { s.params with
              records := t.params.records, edited := true
              morphLength := if ∃ q : Fin 64, t.params.records[q].morph ≠ none then s.params.morphLength else none } ∧
            t.link = (masked 6 (.paramChanged p f) (if locks then masked 8 (.pickup i p) s.link else s.link)).sending)

/-- ROW_STEP_END (R111 to R118, R121, R125, R140, R152): the driven row's columns are sensed and the next row alone is driven,
with the shown states of its lamps; after row 7 every switch is primed, or debounced with the depth in effect, and every group
takes its truth. While the matrix primes or the start-up load runs no switch or group acts. Else the accepted edges are handled
in ascending switch index, each reported as its report spec says and then its action performed, and after them the firing groups
in ascending number, each queuing GROUP_MATCH and performing its action; every one acts on what those before it have left
(R113), and nothing else changes. A panel operation starts, or with an operation in flight becomes the pending one in the place
of the one before it; PEDAL sets the pedal; TUNE starts a job with the default settings unless there is one, as TUNE_START would
but for its origin. That the full scan is handled before the next row is driven is the model's choice (log entry 31). -/
def Obligations.RowSensed : Prop :=
  ∀ (columns : Byte) (s : State), s.running = true →
    let r := s.matrix.row
    let sensed := fun i : Fin 64 => if i.val / 8 = r.val then columns.getLsbD (i.val % 8) else s.matrix.switches[i].sensed
    let shown := fun (t : State) (l : Lamp) => match l.binding, l.state with
      | .none, .off => false
      | .none, .on => true
      | .none, .blink => t.matrix.blinkOn
      | .edited, _ => t.params.edited
      | .tuning, _ => decide (t.tune.job ≠ none) && t.matrix.blinkOn
    let others := fun u t : State => t.table = u.table ∧ t.assigner = u.assigner ∧ t.refresh = u.refresh ∧ t.params = u.params ∧
      t.memory = u.memory ∧ t.tune = u.tune
    let panelOp := fun (p : PanelOp) (u t : State) => t = { u with
      memory :=
        if u.memory.op = none then { u.memory with op := some (panelStart u.params.currentSlot p) }
        else { u.memory with
          pendingPanel := some p
          pendingOrder :=
            if u.memory.pendingPanel = none then u.memory.pendingOrder ++ [.panelOp] else u.memory.pendingOrder } }
    let pedal := fun (down : Bool) (u t : State) =>
      let rises := u.assigner.pedalDown = true ∧ down = false
      t = { u with
        assigner := { u.assigner with pedalDown := down }
        table := { u.table with voices := t.table.voices, releaseOrder := t.table.releaseOrder } } ∧
      (ReleaseOrderExact u → t.table.releaseOrder =
        if rises then u.table.releaseOrder ++ (List.finRange 8).filter fun v => (u.voice v).state = .sustained
        else u.table.releaseOrder) ∧
      ∀ v, t.voice v = if rises ∧ (u.voice v).state = .sustained then (u.voice v).released (u.param 8) else u.voice v
    let tune := fun u t : State =>
      let d := u.tune.defaults
      let bit := fun b : Bool => if b then (1 : Byte) else 0
      let start := Instr.tuneStart d.scope (bit (d.depth = .full)) (bit d.force) (bit d.save) (bit d.disableFailed)
      let vs := (List.finRange 8).filter fun v => d.scope.getLsbD v.val && (u.voice v).enabled
      let taken := fun v : Fin 8 => d.force || decide ((u.voice v).state = .free)
      (u.tune.job ≠ none ∨ vs = [] → t = u) ∧
        (u.tune.job = none → ∃ w, exec start { u with link := { u.link with replies := [] } } = .next w ∧ t = { u with
          table := w.table, assigner := w.assigner, refresh := w.refresh, memory := w.memory, link := t.link
          tune := { w.tune with job := w.tune.job.map fun j => { j with origin := .panel } } }) ∧
        (u.tune.job = none → vs ≠ [] → (∀ v ∈ vs, (u.voice v).state ≠ .off ∧ (u.voice v).state ≠ .tuning) →
          t.memory = u.memory ∧ t.tune.table = u.tune.table ∧ t.link = u.link ∧
          t.tune.job = some
            { origin := .panel, scope := d.scope, depth := d.depth, force := d.force, save := d.save
              disableFailed := d.disableFailed, settle := d.settle, hysteresis := d.hysteresis, polarity := d.polarity
              rounds := roundsOf vs, round := 0
              marks := (vs.take 2).map fun v => (v, if taken v then Mark.taken else Mark.reserved)
              wait := if (vs.take 2).all taken then 0 else 10000
              saving := false, okCount := 0, failedCount := 0 } ∧
          (∀ v ∈ vs.take 2, t.voice v =
            if taken v then { (u.voice v).cutTo .tuning with reserved := false } else { u.voice v with reserved := true }) ∧
          ∀ v, v ∉ vs.take 2 → t.voice v = u.voice v)
    let acts := fun (a : Action) (press : Bool) (u t : State) => match a, press with
      | .recall n, true => panelOp (.recall n) u t
      | .next, true => panelOp .next u t
      | .prev, true => panelOp .prev u t
      | .storeCurrent, true => if u.params.currentSlot = none then t = u else panelOp .storeCurrent u t
      | .pedal, down => pedal down u t
      | .tune, true => tune u t
      | _, _ => t = u
    ∃ t, exec (.rowStepEnd columns) s = .next t ∧
      (t.powered = s.powered ∧ t.resetLow = s.resetLow ∧ t.scanner = s.scanner ∧ t.pending = s.pending) ∧
      t.matrix = { s.matrix with
        row := r + 1, switches := t.matrix.switches, groups := t.matrix.groups, columns := t.matrix.columns
        priming := decide (r ≠ 7) && s.matrix.priming } ∧
      (∀ c : Fin 8, t.rowDrives.getLsbD c.val = decide (c = r + 1)) ∧ t.lampColumns = t.matrix.columns ∧
      (∀ c : Fin 8, t.matrix.columns.getLsbD c.val =
        shown t t.matrix.lamps[(⟨8 * (r + 1 : Fin 8).val + c.val, by omega⟩ : Fin 64)]) ∧
      (r ≠ 7 → others s t ∧ t.link = s.link ∧ t.matrix.groups = s.matrix.groups ∧
        ∀ i : Fin 64, t.matrix.switches[i] = { s.matrix.switches[i] with sensed := sensed i }) ∧
      (r = 7 → s.matrix.priming = true ∨ s.memory.ready = false → others s t ∧ t.link = s.link.sending) ∧
      (r = 7 → ∀ i : Fin 64,
        let x := s.matrix.switches[i]
        let count := if sensed i = x.stable then 0 else if sensed i = x.candidate then x.count + 1 else 1
        t.matrix.switches[i] =
          if s.matrix.priming = true ∨ s.matrix.debounce ≤ count then
            { x with sensed := sensed i, stable := sensed i, candidate := sensed i, count := 0 }
          else { x with sensed := sensed i, candidate := sensed i, count := count }) ∧
      let stable := fun i : Fin 64 => t.matrix.switches[i].stable
      let edge := fun i : Fin 64 => !s.matrix.priming && decide (stable i ≠ s.matrix.switches[i].stable)
      let truth := fun g : Fin 4 =>
        let cs := s.matrix.groups[g].conditions
        ((List.finRange 64).any fun i => decide (cs[i] ≠ .ignore)) && (List.finRange 64).all fun i => match cs[i] with
          | .ignore => true
          | .isDown => stable i
          | .isUp => !stable i
          | .pressed => edge i && stable i
          | .released => edge i && !stable i
          | .changed => edge i
      let fires := fun g : Fin 4 => truth g && !s.matrix.groups[g].previous
      let reported := fun (n : Nat) (item : Report) (u : State) =>
        { u with link := if u.link.mask.getLsbD n then admitItem item u.link else u.link }
      let switchStep : Fin 64 → State → State → Prop := fun i u u' =>
        let x := s.matrix.switches[i]
        let press := stable i
        acts x.action press
          (if x.spec = .both ∨ x.spec = (if press then .press else .release) then reported 9 (.switchEvent i press) u else u) u'
      let groupStep : BitVec 64 → Fin 4 → State → State → Prop := fun states g u u' =>
        let x := s.matrix.groups[g]
        acts x.action true (reported 10 (.groupMatch g (if x.latched then some states else none)) u) u'
      (r = 7 → ∀ g : Fin 4, t.matrix.groups[g] = { s.matrix.groups[g] with previous := truth g }) ∧
        (r = 7 → s.matrix.priming = false → s.memory.ready = true →
          ∀ states : BitVec 64, (∀ i : Fin 64, states.getLsbD i.val = stable i) →
            let steps : List (State → State → Prop) :=
              ((List.finRange 64).filter edge).map switchStep ++ ((List.finRange 4).filter fires).map (groupStep states)
            steps.foldr (fun does next u => ∃ u', does u u' ∧ next u') (fun u => others u t ∧ t.link = u.link.sending) s)

/-! ### Patch memory -/

/-- The record that a store writes of the live sound (R87, R136) holds every field at its place of R186: the format tag, the
protected flag, the morph time, the twelve fields of the setup with its stack code and width - 1, the name of seven bits a
character and the 64 targets of twelve bits; reading it back gives what it was made of; its 112 bytes and its 14 blocks are the
record. -/
def Obligations.LiveRecordRoundTrip : Prop :=
  ∀ (prot : Bool) (name : List Nat) (s : State),
    name.length = 12 → (∀ c ∈ name, c ≤ 0x7F) → s.assigner.setup.InRange → s.params.morphTime ≤ 2000 →
    (∀ p : Fin 64, s.params.records[p].target ≤ 4095) →
    let r := liveRecord prot name s
    let x := s.assigner.setup
    let f := fun lo width : Nat => r.toNat / 2 ^ lo % 2 ^ width
    let bit := fun b : Bool => if b then 1 else 0
    (f 0 7 = 0x35 ∧ f 7 1 = bit prot ∧ f 8 11 = s.params.morphTime ∧
      f 19 1 = (match x.mode with
        | .poly => 0
        | .mono => 1) ∧
      2 ^ f 20 2 = x.stack ∧
      f 22 2 = (match x.assign with
        | .rotate => 0
        | .reuse => 1
        | .lowest => 2) ∧
      f 24 1 = (match x.steal with
        | .oldest => 0
        | .quietest => 1) ∧
      f 25 1 = bit x.keepTop ∧ f 26 1 = bit x.returning ∧
      f 27 2 = (match x.priority with
        | .last => 0
        | .low => 1
        | .high => 2) ∧
      f 29 1 = bit x.retrigger ∧
      f 30 2 = (match x.glide with
        | .off => 0
        | .always => 1
        | .legato => 2) ∧
      f 32 5 = x.bendRange ∧ f 37 4 = x.gap ∧ f 41 3 + 1 = x.width ∧
      (∀ j c : Nat, name[j]? = some c → f (44 + 7 * j) 7 = c) ∧
      ∀ p : Fin 64, f (128 + 12 * p.val) 12 = s.params.records[p].target) ∧
      recordMorphTime r = s.params.morphTime ∧ recordSetup r = some s.assigner.setup ∧ recordName r = name ∧
      (∀ p : Fin 64, recordValue r p = s.params.records[p].target) ∧
      (recordBytes r).length = 112 ∧ numberLE (recordBytes r) = r.toNat ∧ recordOfBlocks (recordBlocks r) = r.toNat ∧
      ((∀ c ∈ name, 0x20 ≤ c ∧ c ≤ 0x7E) → recordWritable r = true)

/-- The memory requests (R132, R134, R136 to R139, R142, R168): with an operation in flight each is refused BUSY, whatever is
pending, and SAVE_TUNING also while there is a tune job; with none, a read starts, and a programming operation over an
unprotected slot or an area, the supply good, is accepted with its erase begun, the blocks that mark its target erased and every
other block untouched; a protected slot ends it REFUSED, a low supply SUPPLY_LOW. That BUSY comes before the check of the
fields, that the marking blocks of an area are erased at the start of its erase as a slot's tag block is, and that a SAVE_TUNING
that ends SUPPLY_LOW leaves the area untouched, are the model's choices (log entries 2, 32 and 35). -/
def Obligations.MemoryRequestsStart : Prop :=
  ∀ s : State, s.takes → StoreCanonical s →
    let op := fun (k : OpKind) (tg : Target) (ph : OpPhase) (time : Nat) (on : Bool) (img : List (BitVec 64)) =>
      ({ kind := k, target := tg, origin := .link, phase := ph, timeLeft := time, setting := on, image := img } : MemOp)
    let reads := fun (kind : Byte) (o : MemOp) =>
      Host.Outcome.next (State.answered kind [0x01] { s.received with memory := { s.memory with op := some o } })
    let erases := fun (kind : Byte) (o : MemOp) (wb : Option WriteBuffer) (marks : List Nat) (t : State) =>
      t = State.answered kind [0x01] { s.received with
        memory := { s.memory with op := some o, writeBuffer := wb, store := t.memory.store } } ∧
      StoreCanonical t ∧
      ∀ b i : Nat, i < 8 →
        storeByte t.memory.store b i = (if b ∈ marks then 0xFF else storeByte s.memory.store b i) ∧
        blockErrors t.memory.store b = if b ∈ marks then 0 else blockErrors s.memory.store b
    let ends := fun (kind : Byte) (tg : Target) (o : Code) =>
      Host.Outcome.next (State.answered kind [0x01] { s.received with
        memory := { s.memory with writeBuffer := none }, link := admitItem (.storeDone tg o) s.link.received })
    let busy := fun kind : Byte => Host.Outcome.next (State.answered kind [0x02] s.received)
    (s.tune.job ≠ none → exec .saveTuning s = busy 0x55) ∧
    (s.memory.op ≠ none → ∀ (a b : Byte) (nm : BitVec 96) (r : BitVec 896),
      exec (.recall a) s = busy 0x40 ∧ exec (.store a nm b) s = busy 0x41 ∧ exec (.writePatch a r) s = busy 0x42 ∧
        exec (.readPatch a) s = busy 0x43 ∧ exec (.patchInfo a) s = busy 0x44 ∧ exec (.protect a b) s = busy 0x45 ∧
        exec .saveSetup s = busy 0x46 ∧ exec .saveTuning s = busy 0x55) ∧
      (s.memory.op = none → s.memory.pendingOrder = [] →
        (∀ a : Byte, a.toNat ≤ 127 →
          exec (.recall a) s = reads 0x40 (op .recall (.slot a.toNat) .read 10 false []) ∧
            exec (.readPatch a) s = reads 0x43 (op .patchRead (.slot a.toNat) .read 10 false []) ∧
            exec (.patchInfo a) s = reads 0x44 (op .patchInfo (.slot a.toNat) .read 10 false []) ∧
            exec (.protect a 0) s = reads 0x45 (op .protect (.slot a.toNat) .heading 1 false []) ∧
            exec (.protect a 1) s = reads 0x45 (op .protect (.slot a.toNat) .heading 1 true [])) ∧
          (∀ (a : Byte) (nm : BitVec 96) (prot : Bool) (r : BitVec 896), a.toNat ≤ 127 →
            (∀ j : Fin 12, 0x20 ≤ (nm.extractLsb' (8 * j.val) 8).toNat ∧ (nm.extractLsb' (8 * j.val) 8).toNat ≤ 0x7E) →
            recordWritable r = true → blockErrors s.memory.store (14 * a.toNat) = 0 →
            let store := Instr.store a nm (if prot then 1 else 0)
            let write := Instr.writePatch a r
            (storeByte s.memory.store (14 * a.toNat) 0 ≠ 0xB5 → 2900 ≤ s.scanner.supply →
              (∃ t, exec store s = .next t ∧
                erases 0x41 (op .store (.slot a.toNat) .erase 150 false [])
                  (some { slot := a.toNat, record := liveRecord prot (nameChars nm) s }) [14 * a.toNat] t) ∧
              ∃ t, exec write s = .next t ∧
                erases 0x42 (op .patchWrite (.slot a.toNat) .erase 150 false []) (some { slot := a.toNat, record := r })
                  [14 * a.toNat] t) ∧
              (storeByte s.memory.store (14 * a.toNat) 0 = 0xB5 →
                exec store s = ends 0x41 (.slot a.toNat) .refused ∧ exec write s = ends 0x42 (.slot a.toNat) .refused) ∧
              (storeByte s.memory.store (14 * a.toNat) 0 ≠ 0xB5 → s.scanner.supply < 2900 →
                exec store s = ends 0x41 (.slot a.toNat) .supplyLow ∧ exec write s = ends 0x42 (.slot a.toNat) .supplyLow)) ∧
          (2900 ≤ s.scanner.supply →
            (∃ t, exec .saveSetup s = .next t ∧
              erases 0x46 (op .setupSave .setupArea .erase 150 false (setupImage s)) s.memory.writeBuffer [1887] t) ∧
            (s.tune.job = none → ∃ t, exec .saveTuning s = .next t ∧
              erases 0x55 (op .tuningSave .tuningArea .erase 150 false (tuningImage s.tune.table)) s.memory.writeBuffer
                ((List.range 16).map fun i => 1824 + i) t)) ∧
          (s.scanner.supply < 2900 →
            exec .saveSetup s = ends 0x46 .setupArea .supplyLow ∧
              (s.tune.job = none → exec .saveTuning s = ends 0x55 .tuningArea .supplyLow)))

/-- ERASE_COMPLETE and PROGRAM_COMPLETE (R127, steps 3 and 4 of R132, R139, R141, R142). The erase unit then reads erased: the
14 blocks of a slot, the tag block alone of a PROTECT, blocks 1792 to 1839 of the tuning area or 1840 to 1887 of the setup area.
Then the body holds its data, with the bits in error that the cells took wrongly: the record's 14 blocks or the one tag block,
the format tag left erased, the 32 blocks of entries, or the setup image's first 47 blocks. No other block changes, and the next
phase begins. What the cells take is an operand of the command (log entry 9). -/
def Obligations.ErasedThenProgrammed : Prop :=
  ∀ (s : State) (op : MemOp), s.running = true → StoreCanonical s → s.memory.op = some op →
    let phase := fun (ph : OpPhase) (time : Nat) (t : State) => t = { s with
      memory := { s.memory with store := t.memory.store, op := some { op with phase := ph, timeLeft := time } }
      link := s.link.sending }
    let same := fun (b : Nat) (t : State) =>
      (∀ i : Nat, i < 8 → storeByte t.memory.store b i = storeByte s.memory.store b i) ∧
        blockErrors t.memory.store b = blockErrors s.memory.store b
    let inUnit := fun b : Nat => match op.target with
      | .slot n => if op.kind = .protect then b = 14 * n else 14 * n ≤ b ∧ b < 14 * n + 14
      | .tuningArea => 1792 ≤ b ∧ b < 1840
      | .setupArea => 1840 ≤ b ∧ b < 1888
      | .wholeLoad => False
    let record : BitVec 896 := (s.memory.writeBuffer.map WriteBuffer.record).getD 0
    let body : List (Nat × BitVec 64) := match op.target with
      | .slot n =>
        if op.kind = .protect then (op.image.take 1).map fun d => (14 * n, d ||| 0x7F)
        else (List.range 14).map fun i => (14 * n + i, record.extractLsb' (64 * i) 64 ||| (if i = 0 then 0x7F else 0))
      | .tuningArea => ((List.range 32).map (1792 + ·)).zip op.image
      | .setupArea => ((List.range 47).map (1840 + ·)).zip op.image
      | .wholeLoad => []
    let times := match op.kind with
      | .protect => (20, 10)
      | .tuningSave => (200, 50)
      | .setupSave => (40, 10)
      | _ => (80, 20)
    (op.phase = .erase → ∃ t, exec .eraseComplete s = .next t ∧ phase .program times.1 t ∧ StoreCanonical t ∧
      ∀ b : Nat, (¬ inUnit b → same b t) ∧
        (inUnit b → (∀ i : Nat, i < 8 → storeByte t.memory.store b i = 0xFF) ∧ blockErrors t.memory.store b = 0)) ∧
      (op.phase = .program → ∀ errors : List BlockBits, ∃ t, exec (.programComplete errors) s = .next t ∧
        phase .verify times.2 t ∧ StoreCanonical t ∧
        (∀ b : Nat, (∀ d, (b, d) ∉ body) → same b t) ∧
          ∀ (b : Nat) (d : BitVec 64), (b, d) ∈ body →
            blockData t.memory.store b = d ∧ blockErrors t.memory.store b = sparseRead 0 errors b)

/-- STORE_COMPLETE, PATCH_WRITE_COMPLETE, PROTECT_COMPLETE, TUNING_SAVE_COMPLETE and SETUP_SAVE_COMPLETE (steps 5 and 6 of R132,
R136, R137, R139, R141, R142), of an operation that acts on what its kind acts on: where the body verifies and the marking
blocks take their contents, they hold them and the outcome is DONE, which a store makes the current slot. Where any body block
has a bit in error the outcome is VERIFY_FAILED, a slot reads EMPTY and no block but the marking blocks changes; that these
stand erased is the model's choice (log entry 45). Where the marking blocks do not take their contents the outcome is
VERIFY_FAILED and the store is left as it stands, a finding of the read that shows it being counted (R128); and it is
VERIFY_FAILED where a status block of the tuning area has taken any bit wrongly, data or check bit: the first such block then
stands erased (log entry 34). STORE_DONE carries the outcome, past the report mask only for an operation of origin LINK (R130,
R140); but a tuning save of origin TUNE hands it to the Tune Unit: the pending tune save becomes no, and the job ends with
TUNE_DONE, COMPLETE, both counts and the outcome, past the mask only for a job of origin LINK (R141, R165). What the cells take
is an operand of the command (log entry 9), and the verify stops at the first mismatch (log entry 20). -/
def Obligations.VerifiedAndMarked : Prop :=
  ∀ (s : State) (op : MemOp) (c : MarkProgram → Instr),
    s.running = true → StoreCanonical s → OperationFits s → s.memory.op = some op → op.phase = .verify → s.memory.pendingOrder = [] →
    (op.kind = .store ∧ c = Instr.storeComplete) ∨ (op.kind = .patchWrite ∧ c = Instr.patchWriteComplete) ∨
      (op.kind = .protect ∧ c = Instr.protectComplete) ∨ (op.kind = .tuningSave ∧ c = Instr.tuningSaveComplete) ∨
      (op.kind = .setupSave ∧ c = Instr.setupSaveComplete) →
    let record : BitVec 896 := (s.memory.writeBuffer.map WriteBuffer.record).getD 0
    let body : List Nat := match op.target with
      | .slot n => if op.kind = .protect then [14 * n] else (List.range 14).map (14 * n + ·)
      | .tuningArea => (List.range 32).map (1792 + ·)
      | .setupArea => (List.range 47).map (1840 + ·)
      | .wholeLoad => []
    let marks : List Nat := match op.target with
      | .slot n => [14 * n]
      | .tuningArea => (List.range 16).map (1824 + ·)
      | .setupArea => [1887]
      | .wholeLoad => []
    let data : List (BitVec 64) := match op.target with
      | .slot _ => if op.kind = .protect then op.image else [record.extractLsb' 0 64]
      | .tuningArea => op.image.drop 32
      | .setupArea => op.image.drop 47
      | .wholeLoad => []
    let offered := fun (unmasked : Bool) (n : Nat) (item : Report) =>
      if unmasked = true ∨ s.link.mask.getLsbD n = true then admitItem item s.link else s.link
    let toTune := op.kind = .tuningSave ∧ op.origin = .tune
    let ends := fun (o : Code) (m : Memory) =>
      { s with
        memory := { m with op := none, writeBuffer := none, pendingTune := if toTune then false else m.pendingTune }
        params :=
          if op.kind = .store ∧ o = .done then { s.params with currentSlot := some op.slot, edited := false } else s.params
        tune := if toTune then { s.tune with job := none } else s.tune
        link := Link.sending (
          if toTune then
            match s.tune.job with
            | none => s.link
            | some j => offered (decide (j.origin = .link)) 5 (.tuneDone .complete j.okCount j.failedCount o)
          else offered (decide (op.origin = .link)) 2 (.storeDone op.target o)) }
    ((∀ b ∈ body, blockErrors s.memory.store b = 0) → marks.length = data.length →
      (∀ n, op.target = .slot n → ∃ d, data = [d] ∧ d.toNat % 128 = 0x35) →
      ∃ t, exec (c { took := true, errors := [] }) s = .next t ∧ StoreCanonical t ∧
        t = ends .done { s.memory with store := t.memory.store } ∧
        (∀ (j b : Nat) (d : BitVec 64), marks[j]? = some b → data[j]? = some d →
          blockData t.memory.store b = d ∧ blockErrors t.memory.store b = 0) ∧
        ∀ b, b ∉ marks →
          (∀ i : Nat, i < 8 → storeByte t.memory.store b i = storeByte s.memory.store b i) ∧
            blockErrors t.memory.store b = blockErrors s.memory.store b) ∧
      (∀ mark : MarkProgram, (∃ b ∈ body, blockErrors s.memory.store b ≠ 0) →
        ∃ t, exec (c mark) s = .next t ∧ StoreCanonical t ∧
          t = ends .verifyFailed { s.memory with
            store := t.memory.store, secCount := t.memory.secCount, lastSec := t.memory.lastSec, lastDed := t.memory.lastDed } ∧
          (∀ b : Nat, if b ∈ marks then
              (∀ i : Nat, i < 8 → storeByte t.memory.store b i = 0xFF) ∧ blockErrors t.memory.store b = 0
            else (∀ i : Nat, i < 8 → storeByte t.memory.store b i = storeByte s.memory.store b i) ∧
              blockErrors t.memory.store b = blockErrors s.memory.store b) ∧
          ∀ n, op.target = .slot n → (readSlot n t.memory).1.outcome = .empty) ∧
      ((∀ b ∈ body, blockErrors s.memory.store b = 0) →
        (∀ n, op.target = .slot n → (storeByte s.memory.store (14 * n) 0).toNat % 128 ≠ 0x35) →
        (op.target = .setupArea → data ≠ [blockData s.memory.store 1887]) →
        ∀ (errors : List BlockBits) (b : Nat), marks.head? = some b →
          let wrong := blockErrors s.memory.store b
          let missed := fun m : Memory => exec (c { took := false, errors := errors }) s = .next (ends .verifyFailed m)
          (wrong = 0 → missed s.memory) ∧
            (∀ i : Fin 72, wrong = 1#72 <<< i.val →
              missed { s.memory with secCount := min 255 (s.memory.secCount + 1), lastSec := some b }) ∧
            ∀ i j : Fin 72, i ≠ j → wrong = 1#72 <<< i.val ||| 1#72 <<< j.val → missed { s.memory with lastDed := some b }) ∧
      ((∀ b ∈ body, blockErrors s.memory.store b = 0) → op.kind = .tuningSave → marks.length = data.length →
        ∀ errors : List BlockBits, (∃ b ∈ marks, sparseRead 0 errors b ≠ 0) →
        ∃ t, exec (c { took := true, errors := errors }) s = .next t ∧ StoreCanonical t ∧
          t = ends .verifyFailed { s.memory with
            store := t.memory.store, secCount := t.memory.secCount, lastSec := t.memory.lastSec, lastDed := t.memory.lastDed } ∧
          ∀ b ∈ marks, sparseRead 0 errors b ≠ 0 → (∀ b' ∈ marks, b' < b → sparseRead 0 errors b' = 0) →
            (∀ i : Nat, i < 8 → storeByte t.memory.store b i = 0xFF) ∧ blockErrors t.memory.store b = 0)

/-- What is programmed and taken right can be read back. A store or a patch write (R129, R132, R186): after its erase, its
program and its completion, a slot read ends DONE and delivers the 14 blocks of the record that stood in the write buffer, none
corrected. A tuning save (R141, R144, R148, R187): a later load of the area gives every entry and status the save took, every
residual 0. A setup save (R107, R125, R142, R144, R187): a later load gives every owner the settings the save took, and the
unused bytes stand at 0. -/
def Obligations.StoredSlotReadsBack : Prop :=
  (∀ (s : State) (op : MemOp) (n : Nat) (r : BitVec 896) (c : MarkProgram → Instr) (rest : List Instr),
    s.running = true → StoreCanonical s → s.memory.op = some op → op.target = .slot n → op.phase = .erase →
    (op.kind = .store ∧ c = Instr.storeComplete) ∨ (op.kind = .patchWrite ∧ c = Instr.patchWriteComplete) →
    s.memory.writeBuffer = some { slot := n, record := r } → r.toNat % 128 = 0x35 → s.memory.pendingOrder = [] →
    ∃ t, Sys2Proof.core.run 3
        { s with pending := .eraseComplete :: .programComplete [] :: c { took := true, errors := [] } :: rest } = .next t ∧
      t.pending = rest ∧ t.memory.op = none ∧
      (readSlot n t.memory).1 = { outcome := .done, data := recordBlocks r, sec := 0 } ∧
      (readSlot n t.memory).1.record = r) ∧
  ∀ (s x : State) (op : MemOp) (rest : List Instr),
    s.running = true → StoreCanonical s → s.memory.op = some op → op.phase = .erase → op.origin = .link →
    s.memory.pendingOrder = [] →
    let saved := fun (c : MarkProgram → Instr) (t : State) =>
      Sys2Proof.core.run 3
          { s with pending := .eraseComplete :: .programComplete [] :: c { took := true, errors := [] } :: rest } = .next t ∧
        t.pending = rest ∧ t.memory.op = none
    (op.kind = .tuningSave → op.target = .tuningArea → op.image = tuningImage x.tune.table →
      (∀ (o : Fin 16) (k : Fin 8), x.tune.table[o][k].entry ≤ 65535) →
      ∃ t, saved Instr.tuningSaveComplete t ∧
        ∀ (u : State) (l : MemOp) (setup : LoadOutcome), u.running = true → u.memory.store = t.memory.store →
          u.memory.op = some l → l.phase = .loadTuning setup →
          ∃ w, exec .tuningLoadComplete u = .next w ∧
            ∀ (o : Fin 16) (k : Fin 8), w.tune.table[o][k] = { x.tune.table[o][k] with residual := 0 }) ∧
      (op.kind = .setupSave → op.target = .setupArea → op.image = setupImage x → SettingsInRange x → MappingUnique x →
        (∀ (i : Fin 64) (n : Nat), x.matrix.switches[i].action = .recall n → n ≤ 127) →
        (∀ g : Fin 4, x.matrix.groups[g].action ≠ .pedal ∧ ∀ n, x.matrix.groups[g].action = .recall n → n ≤ 127) →
        ∃ t, saved Instr.setupSaveComplete t ∧
          (∀ j : Nat, 325 ≤ j → j < 376 → storeByte t.memory.store (1840 + j / 8) (j % 8) = 0) ∧
          ∀ (u : State) (l : MemOp), u.running = true → u.memory.store = t.memory.store →
            u.memory.op = some l → l.phase = .loadSetup →
            ∃ w, exec .setupLoadComplete u = .next w ∧
              (∀ k : Fin 48, w.scanner.knobs[k].mapping = x.scanner.knobs[k].mapping) ∧
              w.scanner.requested = x.scanner.requested ∧ w.scanner.mode = x.scanner.mode ∧
              (∀ i : Fin 64, w.matrix.switches[i].spec = x.matrix.switches[i].spec ∧
                w.matrix.switches[i].action = x.matrix.switches[i].action ∧
                w.matrix.lamps[i].binding = x.matrix.lamps[i].binding) ∧
              (∀ g : Fin 4, w.matrix.groups[g] = { x.matrix.groups[g] with previous := false }) ∧
              w.matrix.debounce = x.matrix.debounce ∧ w.matrix.onTime = x.matrix.onTime ∧ w.matrix.offTime = x.matrix.offTime ∧
              w.link.mask = x.link.mask ∧ w.tune.reference = x.tune.reference ∧ w.tune.defaults = x.tune.defaults ∧
              w.memory.powerOnSlot = x.memory.powerOnSlot)

/-- RECALL_COMPLETE (R42, R83, R100, R129, R130, R134, R135): a slot that does not read DONE, or whose record has a field out of
range, changes no sound; a sound record becomes the live one: its setup, with the reassignment where its mode or stack size is
another, by the hold of parameter 8 as it stood before the recall; its morph time and its values, reached at once or by a morph;
CATCH knobs are re-evaluated; and RECALL_DONE carries the outcome and the blocks corrected, past the report mask only for a
recall of origin LINK. The order in which keys that a reassignment leaves without a voice come to wait is the model's choice
(log entry 39). A block with three or more bits in error reads as a free value, which the statement leaves free (log entry 10). -/
def Obligations.RecallCompletes : Prop :=
  ∀ (s : State) (op : MemOp) (n : Nat),
    s.running = true → s.memory.op = some op → op.kind = .recall ∨ op.kind = .stepRecall → op.phase = .read →
    op.target = .slot n → s.memory.pendingOrder = [] →
    let r := readSlot n s.memory
    let record := r.1.record
    let m := recordMorphTime record
    let ended := fun (o : Code) =>
      let item : Report := .recallDone n o r.1.sec
      { s with
        memory := { r.2 with op := none, writeBuffer := none }
        link := (if op.origin = .link ∨ s.link.mask.getLsbD 1 = true then admitItem item s.link else s.link).sending }
    (r.1.outcome ≠ .done → exec .recallComplete s = .next (ended r.1.outcome)) ∧
      (r.1.outcome = .done → recordSetup record = none ∨ 2000 < m → exec .recallComplete s = .next (ended .corrupt)) ∧
      ∀ setup, r.1.outcome = .done → recordSetup record = some setup → m ≤ 2000 →
        let d := s.scanner.inEffect.deadband
        let records : Vector Param 64 := tab fun p =>
          let x := s.params.records[p].value
          let v := recordValue record p
          if m = 0 ∨ x = v then { value := v, target := v, source := .recall, morph := none }
          else { value := x, target := v, source := .recall, morph := some { start := x, elapsed := 0 } }
        let applied := fun u : State => { ended .done with
          table := u.table, assigner := u.assigner, refresh := u.refresh
          params :=
            { records := records, morphTime := m, currentSlot := some n, edited := false
              morphLength := if ∃ p : Fin 64, records[p].morph ≠ none then some m else none }
          scanner := { s.scanner with
            knobs := tab fun k =>
              let x := s.scanner.knobs[k]
              match x.mapping with
              | none => x
              | some p =>
                if s.scanner.mode = .catch ∧ x.seeded = true then
                  { x with pickup :=
                      if x.reported + d < recordValue record p then .waitRise
                      else if recordValue record p + d < x.reported then .waitFall
                      else .locked }
                else x } }
        (setup.mode = s.assigner.setup.mode → setup.stack = s.assigner.setup.stack →
          exec .recallComplete s = .next (applied { s with assigner := { s.assigner with setup := setup } })) ∧
          (KeyListsConsistent s → StartOrderWhole s → ReleaseOrderExact s →
            ∃ u, SetupAdopted setup s u ∧ exec .recallComplete s = .next (applied u))

/-- The ends of the other reads of Patch Memory: PATCH_READ_COMPLETE and PATCH_INFO_COMPLETE (R138) queue PATCH_DATA with the
outcome and, with DONE, the record's bytes or its name and flag; TAG_EXAMINE_COMPLETE (R140) stops at a VALID slot, goes on to
the next, or ends EMPTY after all 128, a tag block with a double error being passed over and recorded (R128);
HEADING_READ_COMPLETE ends a PROTECT at once where its slot reads EMPTY or CORRUPT or stands as asked, else begins its erase
(R139), and begins the store of a STORE_CURRENT, with a blank name where the slot reads EMPTY or CORRUPT, or refuses it over a
protected slot (R140); with the supply low both end SUPPLY_LOW (R132), and an erase that begins changes the tag block alone. At
every completion of an operation the item that became pending first starts: a panel operation, with the current slot as it then
stands, or the tune job's save, whose flag stays until its completion (R116, R131, R141, log entry 15); with the supply low that
save ends the job at once and lets the panel operation behind it start. The SEC count of an empty search is a free value (log
entry 8). The model's readings and choices: how a heading read stops (log 20), the write buffer of a STORE_CURRENT is filled at
its end (log 17), the pending save's erase begins with blocks 1824 to 1839 (log 32), and a save with the supply low leaves the
store untouched (log 35). -/
def Obligations.MemoryReadsEnd : Prop :=
  (∀ (s : State) (op : MemOp) (n : Nat),
    s.running = true → s.memory.op = some op → op.target = .slot n → s.memory.pendingOrder = [] →
    let ended := fun (m : Memory) (l : Link) =>
      Host.Outcome.next { s with memory := { m with op := none, writeBuffer := none }, link := l.sending }
    let offered := fun item : Report =>
      if op.origin = .link ∨ s.link.mask.getLsbD (reportIndex item) = true then admitItem item s.link else s.link
    let tag := storeByte s.memory.store (14 * n) 0
    let wrong := blockErrors s.memory.store
    let oneBit := fun e : BitVec 72 => ∃ i : Fin 72, e = 1#72 <<< i.val
    let twoBits := fun e : BitVec 72 => ∃ i j : Fin 72, i ≠ j ∧ e = 1#72 <<< i.val ||| 1#72 <<< j.val
    let corrected := fun b : Nat => { s.memory with secCount := min 255 (s.memory.secCount + 1), lastSec := some b }
    let detected := fun b : Nat => { s.memory with lastDed := some b }
    (op.kind = .patchRead →
      let r := readSlot n s.memory
      exec .patchReadComplete s = ended r.2 (offered
        (.patchData n false r.1.outcome (if r.1.outcome = .done then recordBytes r.1.record else [])))) ∧
      (op.kind = .patchInfo →
        let r := readHeading n s.memory
        exec .patchInfoComplete s = ended r.2 (offered
          (.patchData n true r.1.outcome
            (if r.1.outcome = .done then (recordName r.1.record).map byteOf ++ [byteOf (recordField r.1.record 7 1)] else [])))) ∧
      (∀ (up : Bool) (first examined : Nat), op.phase = .search up first examined →
        let r := readBlocks [14 * n] s.memory
        let found := r.1.data.any fun d => decide (d.toNat % 128 = 0x35)
        let goes := fun o : MemOp => Host.Outcome.next { s with memory := { r.2 with op := some o }, link := s.link.sending }
        (wrong (14 * n) = 0 → r.2 = s.memory ∧ found = decide (tag.toNat % 128 = 0x35)) ∧
          (oneBit (wrong (14 * n)) → r.2 = corrected (14 * n) ∧ found = decide (tag.toNat % 128 = 0x35)) ∧
          (twoBits (wrong (14 * n)) → r.2 = detected (14 * n) ∧ found = false) ∧
          (found = true → exec .tagExamineComplete s = goes { op with phase := .read, timeLeft := 10 }) ∧
          (found = false → examined < 127 →
            exec .tagExamineComplete s = goes { op with
              target := .slot (if up then (n + 1) % 128 else (n + 127) % 128)
              phase := .search up first (examined + 1)
              timeLeft := 1 }) ∧
          (found = false → 127 ≤ examined →
            exec .tagExamineComplete s = ended r.2 (offered (.recallDone first .empty
              (Config.emptySearchSec first r.2.secCount r.2.store.errors).toNat)))) ∧
      (op.phase = .heading →
        let r := readHeading n s.memory
        let d := r.1.data.headD 0
        let valid := tag.toNat % 128 = 0x35
        let begun := fun (o : MemOp) (wb : Option WriteBuffer) => StoreCanonical s →
          ∃ t, exec .headingReadComplete s = .next t ∧ StoreCanonical t ∧
            t = { s with memory := { r.2 with op := some o, writeBuffer := wb, store := t.memory.store }, link := s.link.sending } ∧
            ErasedOnly [14 * n] s.memory.store t.memory.store ∧ (readSlot n t.memory).1.outcome = .empty
        let closes := fun o : Code => exec .headingReadComplete s = ended r.2 (offered (.storeDone (.slot n) o))
        (wrong (14 * n) = 0 → wrong (14 * n + 1) = 0 → r.2 = s.memory ∧ r.1.outcome = (if valid then .done else .empty) ∧
            (valid → r.1.data = [blockData s.memory.store (14 * n), blockData s.memory.store (14 * n + 1)])) ∧
          (twoBits (wrong (14 * n)) → r.2 = detected (14 * n) ∧ r.1.outcome = .corrupt) ∧
          (wrong (14 * n) = 0 → valid → twoBits (wrong (14 * n + 1)) → r.2 = detected (14 * n + 1) ∧ r.1.outcome = .corrupt) ∧
          (op.kind = .protect → r.1.outcome ≠ .done → closes r.1.outcome) ∧
          (op.kind = .protect → r.1.outcome = .done → d.getLsbD 7 = op.setting → closes .done) ∧
          (op.kind = .protect → r.1.outcome = .done → d.getLsbD 7 ≠ op.setting →
            (s.scanner.supply < 2900 → closes .supplyLow) ∧
              (2900 ≤ s.scanner.supply → begun { op with
                phase := .erase, timeLeft := 20, image := [if op.setting then d ||| 0x80 else d &&& ~~~0x80] }
                s.memory.writeBuffer)) ∧
          (op.kind = .store → r.1.outcome = .done → d.getLsbD 7 = true → closes .refused) ∧
          (op.kind = .store → r.1.outcome ≠ .done ∨ d.getLsbD 7 = false →
            let name := if r.1.outcome = .done then recordName r.1.record else List.replicate 12 0x20
            (s.scanner.supply < 2900 → closes .supplyLow) ∧
              (2900 ≤ s.scanner.supply → begun { op with phase := .erase, timeLeft := 150 }
                (some { slot := n, record := liveRecord false name s }))))) ∧
  ∀ (c : Instr) (s t0 : State),
    (c = .recallComplete ∨ c = .tagExamineComplete ∨ c = .headingReadComplete ∨ c = .patchReadComplete ∨ c = .patchInfoComplete ∨
      ∃ mark, c = .storeComplete mark ∨ c = .patchWriteComplete mark ∨ c = .protectComplete mark ∨ c = .setupSaveComplete mark ∨
        c = .tuningSaveComplete mark) →
    s.running = true → StoreCanonical s → s.memory.op ≠ none →
    exec c { s with memory := { s.memory with pendingOrder := [] } } = .next t0 → t0.memory.op = none →
    let save : MemOp :=
      { kind := .tuningSave, target := .tuningArea, origin := .tune, phase := .erase, timeLeft := 150, setting := false
        image := tuningImage t0.tune.table }
    let starts := fun (p : PanelOp) (rest : List PendingKind) (m : Memory) =>
      { m with op := some (panelStart t0.params.currentSlot p), pendingPanel := none, pendingOrder := rest }
    (∀ p rest, s.memory.pendingOrder = .panelOp :: rest → s.memory.pendingPanel = some p →
      (p = .storeCurrent → t0.params.currentSlot ≠ none) →
      exec c s = .next { t0 with memory := starts p rest t0.memory }) ∧
      ∀ rest, s.memory.pendingOrder = .tuneSave :: rest →
        (2900 ≤ s.scanner.supply → ∃ t, exec c s = .next t ∧
          t = { t0 with memory := { t0.memory with store := t.memory.store, op := some save, pendingOrder := rest } } ∧
          ErasedOnly ((List.range 16).map (1824 + ·)) t0.memory.store t.memory.store) ∧
        ∀ j, s.scanner.supply < 2900 → t0.tune.job = some j → s.link.tx ≠ none →
          let item : Report := .tuneDone .complete j.okCount j.failedCount .supplyLow
          let ended := { t0 with
            tune := { t0.tune with job := none }
            memory := { t0.memory with pendingTune := false, pendingOrder := rest }
            link := if j.origin = .link ∨ t0.link.mask.getLsbD 5 = true then admitItem item t0.link else t0.link }
          (rest = [] → exec c s = .next ended) ∧
            ∀ p rest', rest = .panelOp :: rest' → s.memory.pendingPanel = some p →
              (p = .storeCurrent → t0.params.currentSlot ≠ none) →
              exec c s = .next { ended with memory := starts p rest' ended.memory }

/-- SETUP_LOAD_COMPLETE, TUNING_LOAD_COMPLETE and SLOT_LOAD_COMPLETE (R90, R107, R125, R144, R145, R149, R150, R187): over
blocks without errors an area whose tag or statuses are not there is EMPTY and nothing is loaded; a setup area hands the
mapping, the scan settings and the pickup mode to the Knob Scanner, its actions, groups, bindings and times to the matrix, the
reference and the defaults to the Tune Unit, the mask to the link and the power-on slot to Patch Memory, each range-checked by
its owner; a tuning area gives every entry and status, the residuals 0; and with the slot's load the part becomes READY and
queues READY with the three outcomes, a sound record being recalled, its setup with the reassignment of R42 where its mode or
stack size is another, every value at once. A stored pickup mode outside its list is a free value, which the statement leaves
free (log entry 19), and so is what a block with three or more bits in error reads as (log entry 10). -/
def Obligations.StartUpLoads : Prop :=
  ∀ (s : State) (op : MemOp), s.running = true → s.memory.op = some op →
    (∀ b : Nat, 1792 ≤ b → b < 1888 → blockErrors s.memory.store b = 0) →
    let st := s.memory.store
    let goes := fun (ph : OpPhase) (time : Nat) =>
      { s with memory := { s.memory with op := some { op with phase := ph, timeLeft := time } }, link := s.link.sending }
    let sb := fun j : Nat => storeByte st (1840 + j / 8) (j % 8)
    let num := fun (j count : Nat) => numberLE ((List.range count).map fun i => sb (j + i))
    let tagged := (List.range 8).map (storeByte st 1887) = [0x5A, 0xA5, 0x5A, 0xA5, 0x5A, 0xA5, 0x5A, 0xA5]
    let isAction := fun (code slot : Nat) (a : Action) =>
      if 6 < code ∨ (code = 1 ∧ 127 < slot) then a = .none else actionCode a = code ∧ ∀ n, a = .recall n → n = slot
    (op.phase = .loadSetup → ¬ tagged → exec .setupLoadComplete s = .next (goes (.loadTuning .empty) 15)) ∧
      (op.phase = .loadSetup → tagged →
        ∃ t, exec .setupLoadComplete s = .next t ∧
          (t.powered = s.powered ∧ t.resetLow = s.resetLow ∧ t.table = s.table ∧ t.assigner = s.assigner ∧ t.params = s.params ∧
            t.refresh = s.refresh ∧ t.pending = s.pending) ∧
          t.memory = { s.memory with
            op := some { op with phase := .loadTuning .ok, timeLeft := 15 }
            powerOnSlot := if (sb 324).toNat ≤ 127 then (sb 324).toNat else 0 } ∧
          t.link = Link.sending { s.link with mask := BitVec.ofNat 11 (num 314 2) } ∧
          t.tune = { s.tune with
            reference := if 200000 ≤ num 316 4 ∧ num 316 4 ≤ 420000 then num 316 4 else 305781
            defaults :=
              { scope := sb 320, depth := if sb 321 = 1 then .full else .fine, force := (sb 322).getLsbD 0
                save := (sb 322).getLsbD 1, disableFailed := (sb 322).getLsbD 2, hysteresis := (sb 322).getLsbD 3
                polarity := if (sb 322).getLsbD 4 then .falling else .rising, settle := max 1 (min 50 (sb 323).toNat) } } ∧
          t.scanner = { s.scanner with
            requested := { banks := BitVec.ofNat 6 (sb 48).toNat, offset := max (-64) (min 63 (sb 49).toInt)
                           deadband := min 255 (num 50 2) }
            mode := t.scanner.mode, knobs := t.scanner.knobs } ∧
          (sb 52 = 0 → t.scanner.mode = .jump) ∧ (sb 52 = 1 → t.scanner.mode = .catch) ∧
          (∀ i : Fin 48, t.scanner.knobs[i] = { s.scanner.knobs[i] with mapping := t.scanner.knobs[i].mapping, pickup := .locked } ∧
            (63 < (sb i.val).toNat ∨ (∃ j < i.val, sb j = sb i.val) → t.scanner.knobs[i].mapping = none) ∧
            ∀ p : Fin 64, (sb i.val).toNat = p.val → (∀ j < i.val, sb j ≠ sb i.val) → t.scanner.knobs[i].mapping = some p) ∧
          t.matrix = { s.matrix with
            switches := t.matrix.switches, groups := t.matrix.groups, lamps := t.matrix.lamps
            debounce := if sb 309 = 1 ∨ sb 309 = 2 ∨ sb 309 = 4 ∨ sb 309 = 8 then (sb 309).toNat else 2
            onTime := max 50 (min 2000 (num 310 2)), offTime := max 50 (min 2000 (num 312 2)) } ∧
          (∀ i : Fin 64, let x := t.matrix.switches[i]
            let code := (sb (53 + 2 * i.val)).toNat
            x = { s.matrix.switches[i] with spec := x.spec, action := x.action } ∧ specCode x.spec = code % 4 ∧
              isAction (code / 4 % 8) (sb (54 + 2 * i.val)).toNat x.action) ∧
          (∀ g : Fin 4, let x := t.matrix.groups[g]
            let a := 181 + 28 * g.val
            x.previous = false ∧ x.latched = decide (sb (a + 24) = 1) ∧
              (if sb (a + 25) = 4 then x.action = .none else isAction (sb (a + 25)).toNat (sb (a + 26)).toNat x.action) ∧
              ∀ i : Fin 64, let code := num a 24 / 8 ^ i.val % 8
                if 5 < code then x.conditions[i] = .ignore else conditionCode x.conditions[i] = code) ∧
          ∀ i : Fin 64, let x := t.matrix.lamps[i]
            let code := num 293 16 / 4 ^ i.val % 4
            x.state = s.matrix.lamps[i].state ∧ if code = 3 then x.binding = .none else bindingCode x.binding = code) ∧
      (∀ setup : LoadOutcome, op.phase = .loadTuning setup →
        let byte := fun j : Nat => storeByte st (1792 + j / 8) (j % 8)
        ((∃ j : Fin 128, ∀ x : TuneStatus, statusCode x ≠ byte (256 + j.val)) →
          exec .tuningLoadComplete s = .next (goes (.loadSlot setup .empty) 10)) ∧
          ((∀ j : Fin 128, ∃ x : TuneStatus, statusCode x = byte (256 + j.val)) →
            ∃ t, exec .tuningLoadComplete s = .next t ∧
              t = { goes (.loadSlot setup .ok) 10 with tune := { s.tune with table := t.tune.table } } ∧
              ∀ (o : Fin 16) (k : Fin 8),
                t.tune.table[o][k].entry = (byte (16 * o.val + 2 * k.val)).toNat + 256 * (byte (16 * o.val + 2 * k.val + 1)).toNat ∧
                  statusCode t.tune.table[o][k].status = byte (256 + 8 * o.val + k.val) ∧ t.tune.table[o][k].residual = 0)) ∧
      ∀ setup tuning : LoadOutcome, op.phase = .loadSlot setup tuning →
        let slot := s.memory.powerOnSlot
        let r := readSlot slot s.memory
        let record := r.1.record
        let m := recordMorphTime record
        let ready := fun o : LoadOutcome => { s with
          memory := { r.2 with ready := true, op := none }
          link := (admitItem (.ready setup tuning o) s.link).sending }
        (∃ t o, exec .slotLoadComplete s = .next t ∧ t.memory.ready = true ∧ t.memory.op = none ∧
          t.link = (admitItem (.ready setup tuning o) s.link).sending) ∧
          (blockErrors st (14 * slot) = 0 → (storeByte st (14 * slot) 0).toNat % 128 ≠ 0x35 →
            exec .slotLoadComplete s = .next { s with
              memory := { s.memory with ready := true, op := none }
              link := (admitItem (.ready setup tuning .empty) s.link).sending }) ∧
          (r.1.outcome = .corrupt → exec .slotLoadComplete s = .next (ready .corrupt)) ∧
          (r.1.outcome = .done → recordSetup record = none ∨ 2000 < m → exec .slotLoadComplete s = .next (ready .corrupt)) ∧
          ∀ new, r.1.outcome = .done → recordSetup record = some new → m ≤ 2000 →
            let d := s.scanner.inEffect.deadband
            let applied := fun u : State => { ready (if r.1.sec = 0 then .ok else .corrected) with
              table := u.table, assigner := u.assigner, refresh := u.refresh
              params :=
                { records := tab fun p => { value := recordValue record p, target := recordValue record p, source := .recall, morph := none }
                  morphTime := m, morphLength := none, currentSlot := some slot, edited := false }
              scanner := { s.scanner with
                knobs := tab fun k =>
                  let x := s.scanner.knobs[k]
                  match x.mapping with
                  | none => x
                  | some p =>
                    if s.scanner.mode = .catch ∧ x.seeded = true then
                      { x with pickup :=
                          if x.reported + d < recordValue record p then .waitRise
                          else if recordValue record p + d < x.reported then .waitFall
                          else .locked }
                    else x } }
            (new.mode = s.assigner.setup.mode → new.stack = s.assigner.setup.stack →
              exec .slotLoadComplete s = .next (applied { s with assigner := { s.assigner with setup := new } })) ∧
              (KeyListsConsistent s → StartOrderWhole s → ReleaseOrderExact s →
                ∃ u, SetupAdopted new s u ∧ exec .slotLoadComplete s = .next (applied u))

/-! ### Tuning -/

/-- TUNE_START (R151, R153 to R155, R160, R163): over enabled voices in the scope, none OFF or TUNING, a job is created over
their pairs, two by two in ascending index, an odd last one alone; of the first pair a FREE voice, or any with force, becomes
TUNING, and its two channels begin point 0 with their first trial codes; a busy one is reserved and the wait limit starts. In
POLY a key that so loses its last voice waits; in MONO the voice leaves the stack (R34, R37). With a job present the reply is
BUSY, with no enabled voice in the scope BAD_ARG. That the counters of a channel stand at 0 as its trial begins is the model's
choice (log entry 44). -/
def Obligations.TuneStarts : Prop :=
  ∀ (scope : Byte) (full force save disableFailed : Bool) (s : State), s.takes →
    let bit := fun b : Bool => if b then (1 : Byte) else 0
    let start := Instr.tuneStart scope (bit full) (bit force) (bit save) (bit disableFailed)
    let vs := (List.finRange 8).filter fun v => scope.getLsbD v.val && (s.voice v).enabled
    (s.tune.job ≠ none → exec start s = .next (State.answered 0x50 [0x02] s.received)) ∧
      (s.tune.job = none → vs = [] → exec start s = .next (State.answered 0x50 [0x03] s.received)) ∧
      (s.tune.job = none → vs ≠ [] → (∀ v ∈ vs, (s.voice v).state ≠ .off ∧ (s.voice v).state ≠ .tuning) →
        let taken := fun v : Fin 8 => force || decide ((s.voice v).state = .free)
        let n := if full then 12 else 8
        let created : Job :=
          { origin := .link, scope := scope, depth := if full then .full else .fine, force := force, save := save
            disableFailed := disableFailed, settle := s.tune.defaults.settle, hysteresis := s.tune.defaults.hysteresis
            polarity := s.tune.defaults.polarity, rounds := roundsOf vs, round := 0, marks := [], wait := 0
            saving := false, okCount := 0, failedCount := 0 }
        (KeyListsConsistent s → exec start s = .next (State.answered 0x50 [0x01]
          (State.roundStarted (vs.take 2) { s.received with tune := { s.tune with job := some created } }))) ∧
        ∃ t, exec start s = .next t ∧ SamePlayFrame s t ∧
          t.link = Link.sending { s.link.received with replies := s.link.replies ++ [{ kind := 0xD0, body := [0x01] }] } ∧
          t.tune.table = s.tune.table ∧
          t.tune.job = some { created with
            marks := (vs.take 2).map fun v => (v, if taken v then Mark.taken else Mark.reserved)
            wait := if (vs.take 2).all taken then 0 else 10000 } ∧
          (∀ v ∈ vs.take 2, t.voice v =
            if taken v then { (s.voice v).cutTo .tuning with reserved := false } else { s.voice v with reserved := true }) ∧
          (∀ v, v ∉ vs.take 2 → t.voice v = s.voice v) ∧
          ∀ v ∈ vs.take 2, ∀ o : Fin 16, o.val / 2 = v.val →
            t.refresh.overrides[o] =
              if taken v then
                let base := if full then 10922 else s.tune.table[o][(0 : Fin 8)].entry
                { code := min (65535 - 2 ^ n) (base - 2 ^ (n - 1)) + 2 ^ (n - 1), valid := true, loadPending := true }
              else s.refresh.overrides[o])

/-- TUNE_ABORT (R15, R33, R37, R166): with no job the reply is NOTHING_TO_DO and with one that saves BUSY; otherwise the job and
its channels end, every override is cleared, no mark is left, TUNE_DONE ABORTED is queued with the reply DONE, and every TUNING
voice becomes FREE and is returned to service, in ascending index: in POLY each starts the newest key that waits, in MONO it
joins a stack short of S voices. WAIT_LIMIT_EXPIRY (R34, R37, R155): every voice still reserved is cut to TUNING, in ascending
index (log entry 41); in POLY a key that so loses its last voice waits, in MONO the voice leaves the stack; and each is taken:
its mark is TAKEN and its two channels start with their first codes (R154, R163). That the counters of a channel stand at 0 as
its trial begins is the model's choice (log entry 44). -/
def Obligations.TuneJobCutShort : Prop :=
  ∀ s : State,
    (s.takes →
      (s.tune.job = none → exec .tuneAbort s = .next (State.answered 0x51 [0x0D] s.received)) ∧
        ∀ j, s.tune.job = some j →
          (j.saving = true → exec .tuneAbort s = .next (State.answered 0x51 [0x02] s.received)) ∧
            (j.saving = false →
              let item : Report := .tuneDone .aborted j.okCount j.failedCount .notSaved
              let stopped := { s with
                table := { s.table with
                  voices := tab fun v => { s.voice v with
                    reserved := false, state := if (s.voice v).state = .tuning then .free else (s.voice v).state } }
                refresh := { s.refresh with overrides := tab fun _ => Override.clear }
                tune := { s.tune with job := none, channels := tab fun _ => Channel.idle }
                link := if j.origin = .link ∨ s.link.mask.getLsbD 5 = true then admitItem item s.link.received
                  else s.link.received }
              (s.assigner.setup.mode = .poly → s.assigner.waiting = [] →
                exec .tuneAbort s = .next (State.answered 0x51 [0x00] stopped)) ∧
                (KeyListsConsistent s → MonoStackSounds s → s.assigner.setup.stack ≤ 8 →
                  exec .tuneAbort s = .next (State.answered 0x51 [0x00] (stopped.returned (heldKeys s)
                    ((List.finRange 8).filter fun v => decide ((s.voice v).state = .tuning))))))) ∧
      ∀ j, s.running = true → s.tune.job = some j → j.saving = false → j.wait = 0 → (∃ e ∈ j.marks, e.2 = .reserved) →
        (∀ v, (s.voice v).reserved = true → (s.voice v).inPlay = true) →
        ∃ t, exec .waitLimitExpiry s = .next t ∧ SamePlayFrame s t ∧ t.link = s.link ∧ t.tune.table = s.tune.table ∧
          t.tune.job = some { j with marks := j.marks.map fun e => if (s.voice e.1).reserved then (e.1, Mark.taken) else e } ∧
          (∀ v, t.voice v = if (s.voice v).reserved then { (s.voice v).cutTo .tuning with reserved := false } else s.voice v) ∧
          (KeyListsConsistent s →
            let vs := (List.finRange 8).filter fun v => (s.voice v).reserved
            t = vs.foldl State.took { s with
              assigner := s.bereft vs
              table := { s.table with
                voices := t.table.voices, releaseOrder := s.table.releaseOrder.filter fun v => decide (v ∉ vs) } })

/-- TAP_EDGE, COUNTING_TIMEOUT and FIRST_EDGE_TIMEOUT on the channel that serves the tap (R157 to R163): the first edge opens
the gate for 2^k edges; each further edge lowers the count; the last one, or the timeout with verdict FLAT, ends a search trial,
which takes the upper half of the window when FLAT and writes the next trial's code; the end of the confirming trial, by the
edge or by the timeout, writes the point; a trial without a first edge ends its point NO_SIGNAL, the entry kept. The next point
then begins with the window of R160 around its own base and the first trial in its middle. The crossings are operands of
TAP_EDGE, the period counter stops at its top, and both counters are cleared as a trial begins: the model's choices (log entries
21, 26 and 44). -/
def Obligations.TrialsAdvance : Prop :=
  ∀ (s : State) (j : Job) (c : Fin 4) (o : Fin 16), s.running = true → s.tune.job = some j → s.tune.channels[c].osc = some o →
    (∀ d, s.tune.channels[d].osc = some o → d = c) →
    let ch := s.tune.channels[c]
    let others := fun t : State => t.powered = s.powered ∧ t.resetLow = s.resetLow ∧ t.table = s.table ∧ t.assigner = s.assigner ∧
      t.params = s.params ∧ t.scanner = s.scanner ∧ t.matrix = s.matrix ∧ t.memory = s.memory ∧ t.link = s.link.sending ∧
      t.pending = s.pending ∧ (∀ d, d ≠ c → t.tune.channels[d] = s.tune.channels[d]) ∧
      (∀ q, q ≠ o → t.refresh.overrides[q] = s.refresh.overrides[q])
    let trial := fun (code : Nat) (t : State) => t.refresh.overrides[o] = { code := code, valid := true, loadPending := true }
    let goesOn := fun (i found : Nat) (t : State) => others t ∧ t.tune.job = s.tune.job ∧ t.tune.table = s.tune.table ∧
      let code := if i = 0 then found + 1 else found + 2 ^ (i - 1)
      trial code t ∧ t.tune.channels[c] = { ch with
        phase := .delivery, c := found, code := code, cycle := 0, period := 0, timer := 0
        index := if i = 0 then .confirm else .search (i - 1) }
    let nextPoint := fun (p : Point) (ok bad : Nat) (t : State) => others t ∧
      t.tune.table[o][ch.point] = p ∧
      (∀ (q : Fin 16) (k : Fin 8), q ≠ o ∨ k ≠ ch.point → t.tune.table[q][k] = s.tune.table[q][k]) ∧
      t.tune.job = some { j with okCount := j.okCount + ok, failedCount := j.failedCount + bad } ∧
      (∀ k : Fin 8, k.val = ch.point.val + 1 →
        let n := if j.depth = .full then 12 else 8
        let base := if j.depth = .full then 5461 * (k.val + 2) else s.tune.table[o][k].entry
        let low := min (65535 - 2 ^ n) (base - 2 ^ (n - 1))
        let code := low + 2 ^ (n - 1)
        trial code t ∧ t.tune.channels[c] =
          { phase := .delivery, osc := some o, point := k, low := low, trials := n, base := base, index := .search (n - 1), c := low
            code := code, cycle := 0, period := 0, timer := 0 })
    let confirmed := fun (count : Int) (t : State) =>
      let status := if ch.c = ch.low + 2 ^ ch.trials - 1 then TuneStatus.outLow
        else if ch.c = ch.low then .outHigh else .ok
      nextPoint { entry := ch.c + 1, status := status, residual := max (-32767) (min 32767 (count - s.tune.reference)) }
        (if status = .ok then 1 else 0) (if status = .ok then 0 else 1) t
    (∀ (x : TapCrossing) (clocks : Nat),
      x = (if j.hysteresis then (if j.polarity = .rising then .upperAfterLower else .lowerAfterUpper)
        else if j.polarity = .rising then .midRising else .midFalling) →
      let period := min 16777215 (ch.period + clocks)
      (ch.phase = .firstEdge →
        exec (.tapEdge o x clocks) s =
          .next (modChannel c (fun ch => { ch with phase := .counting, cycle := 2 ^ ch.point.val, period := 0, timer := 200 }) s)) ∧
        (ch.phase = .counting → 1 < ch.cycle → LineServed s → roundOver s = false →
          exec (.tapEdge o x clocks) s = .next (modChannel c (fun ch => { ch with cycle := ch.cycle - 1, period := period }) s)) ∧
        (∀ i, ch.phase = .counting → ch.cycle ≤ 1 → ch.index = .search i →
          ∃ t, exec (.tapEdge o x clocks) s = .next t ∧
            goesOn i (if s.tune.reference < period then ch.c + 2 ^ i else ch.c) t) ∧
        (ch.phase = .counting → ch.cycle ≤ 1 → ch.index = .confirm → ch.point.val < 7 →
          ∃ t, exec (.tapEdge o x clocks) s = .next t ∧ confirmed (period : Int) t)) ∧
      (∀ (i clocks : Nat), ch.phase = .counting → ch.timer = 0 → ch.index = .search i →
        ∃ t, exec (.countingTimeout c clocks) s = .next t ∧ goesOn i (ch.c + 2 ^ i) t) ∧
      (∀ clocks : Nat, ch.phase = .counting → ch.timer = 0 → ch.index = .confirm → ch.point.val < 7 →
        ∃ t, exec (.countingTimeout c clocks) s = .next t ∧ confirmed ((min 16777215 (ch.period + clocks) : Nat) : Int) t) ∧
      (ch.phase = .firstEdge → ch.timer = 0 → ch.point.val < 7 →
        ∃ t, exec (.firstEdgeTimeout c) s = .next t ∧
          nextPoint { s.tune.table[o][ch.point] with status := .noSignal, residual := 0 } 0 1 t)

/-- The end of the last channel of a round (R164, R165), here by a trial without a first edge: the point ends NO_SIGNAL,
TUNE_PROGRESS is queued for each oscillator whose channel started, in ascending order; the taken voices return, to OFF where the
job disables failed voices and an oscillator stands NO_SIGNAL, else to service: in POLY each starts the newest key that waits,
in MONO it joins a stack short of S voices (R33, R37). The overrides of the round's voices are cleared and every channel is
IDLE. A next round whose voices are all OFF, or TUNING already, is SKIPPED whole. After the last round TUNE_DONE closes the job
where it saves nothing; otherwise its save starts, is pending while an operation is in flight, or with the supply low ends the
job at once. Before it the next round starts: of its voices one that is OFF is SKIPPED, the others are taken or reserved, in
POLY a key that so loses its last voice waits and in MONO the voice leaves the stack (R34, R37), the channels of the taken ones
begin with their first codes, and the wait limit runs while one is reserved (R154, R155). The model's choices: the save's erase
begins with blocks 1824 to 1839 (log entry 32), a save with the supply low leaves the area untouched (log entry 35), and a
channel's counters stand at 0 as its trial begins (log entry 44). -/
def Obligations.RoundEnds : Prop :=
  ∀ (s : State) (j : Job) (c : Fin 4) (o : Fin 16),
    s.running = true → s.tune.job = some j → j.saving = false → (∀ e ∈ j.marks, e.2 = .taken ∨ e.2 = .skipped) →
    s.tune.channels[c].osc = some o → s.tune.channels[c].phase = .firstEdge →
    s.tune.channels[c].timer = 0 → s.tune.channels[c].point = 7 →
    (∀ d, d ≠ c → s.tune.channels[d].phase = .idle ∨ s.tune.channels[d].phase = .ended) →
    KeyListsConsistent s → MonoStackSounds s → s.assigner.setup.stack ≤ 8 →
    let table := upd s.tune.table o fun row => upd row 7 fun q => { q with status := .noSignal, residual := 0 }
    let fails := fun v : Fin 8 =>
      decide (j.disableFailed = true ∧ ∃ (q : Fin 16) (k : Fin 8), q.val / 2 = v.val ∧ table[q][k].status = .noSignal)
    let returns := fun v : Fin 8 => decide ((v, Mark.taken) ∈ j.marks ∧ (s.voice v).state = .tuning)
    let offered := fun (item : Report) (l : Link) =>
      if j.origin = .link ∨ l.mask.getLsbD (reportIndex item) = true then admitItem item l else l
    let progress := ((List.finRange 16).filter fun q => decide (∃ d : Fin 4, s.tune.channels[d].osc = some q)).foldl
      (fun l q => offered (.tuneProgress q table[q]) l) s.link
    let freed := { s with
      table := { s.table with
        voices := tab fun v =>
          if !returns v then s.voice v
          else if fails v then { s.voice v with state := .off, enabled := false } else { s.voice v with state := .free } }
      link := progress
      tune := { s.tune with table := table, channels := tab fun _ => Channel.idle } }
    let served := freed.returned (heldKeys s) ((List.finRange 8).filter fun v => returns v && !fails v)
    ∀ k ≤ 3,
      let later := fun i : Nat => j.rounds[j.round + 1 + i]?
      (∀ i < k, ∃ vs, later i = some vs ∧ ∀ v ∈ vs, (served.voice v).skipped = true) →
      let marks := match k with
        | 0 => j.marks
        | i + 1 => ((later i).getD []).map fun v => (v, Mark.skipped)
      let left : Job :=
        { j with round := j.round + k, failedCount := j.failedCount + 1, marks := marks, wait := if k = 0 then j.wait else 0 }
      let cleared := fun q : Fin 16 => (∃ e ∈ j.marks, e.1.val = q.val / 2) ∨ ∃ i < k, ∃ v ∈ (later i).getD [], v.val = q.val / 2
      let ended := fun (job : Option Job) (m : Memory) (l : Link) => { served with
        refresh := { served.refresh with overrides := tab fun q => if cleared q then Override.clear else s.refresh.overrides[q] }
        memory := m
        link := l
        tune := { served.tune with job := job } }
      (later k = none →
        (j.save = false → exec (.firstEdgeTimeout c) s = .next (State.sending
          (ended none s.memory (offered (.tuneDone .complete j.okCount (j.failedCount + 1) .notSaved) progress)))) ∧
          (j.save = true → s.memory.op = none → 2900 ≤ s.scanner.supply → StoreCanonical s →
            let save : MemOp :=
              { kind := .tuningSave, target := .tuningArea, origin := .tune, phase := .erase, timeLeft := 150, setting := false
                image := tuningImage table }
            ∃ t, exec (.firstEdgeTimeout c) s = .next t ∧ StoreCanonical t ∧
              t = State.sending (ended (some { left with saving := true })
                { s.memory with store := t.memory.store, op := some save } progress) ∧
              ErasedOnly ((List.range 16).map (1824 + ·)) s.memory.store t.memory.store) ∧
          (j.save = true → s.memory.op = none → s.scanner.supply < 2900 →
            exec (.firstEdgeTimeout c) s = .next (State.sending (ended none
              { s.memory with op := none, writeBuffer := none, pendingTune := false }
              (offered (.tuneDone .complete j.okCount (j.failedCount + 1) .supplyLow) progress)))) ∧
          (j.save = true → s.memory.op ≠ none →
            exec (.firstEdgeTimeout c) s = .next (State.sending (ended (some { left with saving := true })
              { s.memory with pendingTune := true, pendingOrder := s.memory.pendingOrder ++ [.tuneSave] } progress)))) ∧
        ∀ vs : List (Fin 8), later k = some vs → vs.Nodup → (∃ v ∈ vs, (served.voice v).skipped = false) →
          exec (.firstEdgeTimeout c) s = .next (State.sending
            ((ended (some { left with round := j.round + 1 + k }) s.memory progress).roundStarted vs))
end

