-- ==== Sys2Proof/Laws/State.lean ====
section
/-! SUPPORT. What each update of the state leaves alone: one lemma per field per update, so that no proof unfolds a record
update. -/

namespace Sys2Proof.Machine

/-! `modVoice` changes `table` alone. -/

@[simp] theorem modVoice_powered (v : Fin 8) (f : Voice → Voice) (s : State) : (modVoice v f s).powered = s.powered := rfl
@[simp] theorem modVoice_resetLow (v : Fin 8) (f : Voice → Voice) (s : State) : (modVoice v f s).resetLow = s.resetLow := rfl
@[simp] theorem modVoice_assigner (v : Fin 8) (f : Voice → Voice) (s : State) : (modVoice v f s).assigner = s.assigner := rfl
@[simp] theorem modVoice_refresh (v : Fin 8) (f : Voice → Voice) (s : State) : (modVoice v f s).refresh = s.refresh := rfl
@[simp] theorem modVoice_params (v : Fin 8) (f : Voice → Voice) (s : State) : (modVoice v f s).params = s.params := rfl
@[simp] theorem modVoice_scanner (v : Fin 8) (f : Voice → Voice) (s : State) : (modVoice v f s).scanner = s.scanner := rfl
@[simp] theorem modVoice_matrix (v : Fin 8) (f : Voice → Voice) (s : State) : (modVoice v f s).matrix = s.matrix := rfl
@[simp] theorem modVoice_memory (v : Fin 8) (f : Voice → Voice) (s : State) : (modVoice v f s).memory = s.memory := rfl
@[simp] theorem modVoice_tune (v : Fin 8) (f : Voice → Voice) (s : State) : (modVoice v f s).tune = s.tune := rfl
@[simp] theorem modVoice_link (v : Fin 8) (f : Voice → Voice) (s : State) : (modVoice v f s).link = s.link := rfl
@[simp] theorem modVoice_pending (v : Fin 8) (f : Voice → Voice) (s : State) : (modVoice v f s).pending = s.pending := rfl

/-! `modParam` changes `params` alone. -/

@[simp] theorem modParam_powered (p : Fin 64) (f : Param → Param) (s : State) : (modParam p f s).powered = s.powered := rfl
@[simp] theorem modParam_resetLow (p : Fin 64) (f : Param → Param) (s : State) : (modParam p f s).resetLow = s.resetLow := rfl
@[simp] theorem modParam_table (p : Fin 64) (f : Param → Param) (s : State) : (modParam p f s).table = s.table := rfl
@[simp] theorem modParam_assigner (p : Fin 64) (f : Param → Param) (s : State) : (modParam p f s).assigner = s.assigner := rfl
@[simp] theorem modParam_refresh (p : Fin 64) (f : Param → Param) (s : State) : (modParam p f s).refresh = s.refresh := rfl
@[simp] theorem modParam_scanner (p : Fin 64) (f : Param → Param) (s : State) : (modParam p f s).scanner = s.scanner := rfl
@[simp] theorem modParam_matrix (p : Fin 64) (f : Param → Param) (s : State) : (modParam p f s).matrix = s.matrix := rfl
@[simp] theorem modParam_memory (p : Fin 64) (f : Param → Param) (s : State) : (modParam p f s).memory = s.memory := rfl
@[simp] theorem modParam_tune (p : Fin 64) (f : Param → Param) (s : State) : (modParam p f s).tune = s.tune := rfl
@[simp] theorem modParam_link (p : Fin 64) (f : Param → Param) (s : State) : (modParam p f s).link = s.link := rfl
@[simp] theorem modParam_pending (p : Fin 64) (f : Param → Param) (s : State) : (modParam p f s).pending = s.pending := rfl

/-! `modKnob` changes `scanner` alone. -/

@[simp] theorem modKnob_powered (k : Fin 48) (f : Knob → Knob) (s : State) : (modKnob k f s).powered = s.powered := rfl
@[simp] theorem modKnob_resetLow (k : Fin 48) (f : Knob → Knob) (s : State) : (modKnob k f s).resetLow = s.resetLow := rfl
@[simp] theorem modKnob_table (k : Fin 48) (f : Knob → Knob) (s : State) : (modKnob k f s).table = s.table := rfl
@[simp] theorem modKnob_assigner (k : Fin 48) (f : Knob → Knob) (s : State) : (modKnob k f s).assigner = s.assigner := rfl
@[simp] theorem modKnob_refresh (k : Fin 48) (f : Knob → Knob) (s : State) : (modKnob k f s).refresh = s.refresh := rfl
@[simp] theorem modKnob_params (k : Fin 48) (f : Knob → Knob) (s : State) : (modKnob k f s).params = s.params := rfl
@[simp] theorem modKnob_matrix (k : Fin 48) (f : Knob → Knob) (s : State) : (modKnob k f s).matrix = s.matrix := rfl
@[simp] theorem modKnob_memory (k : Fin 48) (f : Knob → Knob) (s : State) : (modKnob k f s).memory = s.memory := rfl
@[simp] theorem modKnob_tune (k : Fin 48) (f : Knob → Knob) (s : State) : (modKnob k f s).tune = s.tune := rfl
@[simp] theorem modKnob_link (k : Fin 48) (f : Knob → Knob) (s : State) : (modKnob k f s).link = s.link := rfl
@[simp] theorem modKnob_pending (k : Fin 48) (f : Knob → Knob) (s : State) : (modKnob k f s).pending = s.pending := rfl

/-! `modChannel` changes `tune` alone. -/

@[simp] theorem modChannel_powered (c : Fin 4) (f : Channel → Channel) (s : State) : (modChannel c f s).powered = s.powered := rfl
@[simp] theorem modChannel_resetLow (c : Fin 4) (f : Channel → Channel) (s : State) : (modChannel c f s).resetLow = s.resetLow := rfl
@[simp] theorem modChannel_table (c : Fin 4) (f : Channel → Channel) (s : State) : (modChannel c f s).table = s.table := rfl
@[simp] theorem modChannel_assigner (c : Fin 4) (f : Channel → Channel) (s : State) : (modChannel c f s).assigner = s.assigner := rfl
@[simp] theorem modChannel_refresh (c : Fin 4) (f : Channel → Channel) (s : State) : (modChannel c f s).refresh = s.refresh := rfl
@[simp] theorem modChannel_params (c : Fin 4) (f : Channel → Channel) (s : State) : (modChannel c f s).params = s.params := rfl
@[simp] theorem modChannel_scanner (c : Fin 4) (f : Channel → Channel) (s : State) : (modChannel c f s).scanner = s.scanner := rfl
@[simp] theorem modChannel_matrix (c : Fin 4) (f : Channel → Channel) (s : State) : (modChannel c f s).matrix = s.matrix := rfl
@[simp] theorem modChannel_memory (c : Fin 4) (f : Channel → Channel) (s : State) : (modChannel c f s).memory = s.memory := rfl
@[simp] theorem modChannel_link (c : Fin 4) (f : Channel → Channel) (s : State) : (modChannel c f s).link = s.link := rfl
@[simp] theorem modChannel_pending (c : Fin 4) (f : Channel → Channel) (s : State) : (modChannel c f s).pending = s.pending := rfl

/-! `modOverride` changes `refresh` alone. -/

@[simp] theorem modOverride_powered (o : Fin 16) (f : Override → Override) (s : State) : (modOverride o f s).powered = s.powered := rfl
@[simp] theorem modOverride_resetLow (o : Fin 16) (f : Override → Override) (s : State) : (modOverride o f s).resetLow = s.resetLow := rfl
@[simp] theorem modOverride_table (o : Fin 16) (f : Override → Override) (s : State) : (modOverride o f s).table = s.table := rfl
@[simp] theorem modOverride_assigner (o : Fin 16) (f : Override → Override) (s : State) : (modOverride o f s).assigner = s.assigner := rfl
@[simp] theorem modOverride_params (o : Fin 16) (f : Override → Override) (s : State) : (modOverride o f s).params = s.params := rfl
@[simp] theorem modOverride_scanner (o : Fin 16) (f : Override → Override) (s : State) : (modOverride o f s).scanner = s.scanner := rfl
@[simp] theorem modOverride_matrix (o : Fin 16) (f : Override → Override) (s : State) : (modOverride o f s).matrix = s.matrix := rfl
@[simp] theorem modOverride_memory (o : Fin 16) (f : Override → Override) (s : State) : (modOverride o f s).memory = s.memory := rfl
@[simp] theorem modOverride_tune (o : Fin 16) (f : Override → Override) (s : State) : (modOverride o f s).tune = s.tune := rfl
@[simp] theorem modOverride_link (o : Fin 16) (f : Override → Override) (s : State) : (modOverride o f s).link = s.link := rfl
@[simp] theorem modOverride_pending (o : Fin 16) (f : Override → Override) (s : State) : (modOverride o f s).pending = s.pending := rfl

/-! `writeOverride` changes `refresh` alone. -/

@[simp] theorem writeOverride_powered (o : Fin 16) (code : Nat) (s : State) : (writeOverride o code s).powered = s.powered := rfl
@[simp] theorem writeOverride_resetLow (o : Fin 16) (code : Nat) (s : State) : (writeOverride o code s).resetLow = s.resetLow := rfl
@[simp] theorem writeOverride_table (o : Fin 16) (code : Nat) (s : State) : (writeOverride o code s).table = s.table := rfl
@[simp] theorem writeOverride_assigner (o : Fin 16) (code : Nat) (s : State) : (writeOverride o code s).assigner = s.assigner := rfl
@[simp] theorem writeOverride_params (o : Fin 16) (code : Nat) (s : State) : (writeOverride o code s).params = s.params := rfl
@[simp] theorem writeOverride_scanner (o : Fin 16) (code : Nat) (s : State) : (writeOverride o code s).scanner = s.scanner := rfl
@[simp] theorem writeOverride_matrix (o : Fin 16) (code : Nat) (s : State) : (writeOverride o code s).matrix = s.matrix := rfl
@[simp] theorem writeOverride_memory (o : Fin 16) (code : Nat) (s : State) : (writeOverride o code s).memory = s.memory := rfl
@[simp] theorem writeOverride_tune (o : Fin 16) (code : Nat) (s : State) : (writeOverride o code s).tune = s.tune := rfl
@[simp] theorem writeOverride_link (o : Fin 16) (code : Nat) (s : State) : (writeOverride o code s).link = s.link := rfl
@[simp] theorem writeOverride_pending (o : Fin 16) (code : Nat) (s : State) : (writeOverride o code s).pending = s.pending := rfl

/-! `clearOverride` changes `refresh` alone. -/

@[simp] theorem clearOverride_powered (o : Fin 16) (s : State) : (clearOverride o s).powered = s.powered := rfl
@[simp] theorem clearOverride_resetLow (o : Fin 16) (s : State) : (clearOverride o s).resetLow = s.resetLow := rfl
@[simp] theorem clearOverride_table (o : Fin 16) (s : State) : (clearOverride o s).table = s.table := rfl
@[simp] theorem clearOverride_assigner (o : Fin 16) (s : State) : (clearOverride o s).assigner = s.assigner := rfl
@[simp] theorem clearOverride_params (o : Fin 16) (s : State) : (clearOverride o s).params = s.params := rfl
@[simp] theorem clearOverride_scanner (o : Fin 16) (s : State) : (clearOverride o s).scanner = s.scanner := rfl
@[simp] theorem clearOverride_matrix (o : Fin 16) (s : State) : (clearOverride o s).matrix = s.matrix := rfl
@[simp] theorem clearOverride_memory (o : Fin 16) (s : State) : (clearOverride o s).memory = s.memory := rfl
@[simp] theorem clearOverride_tune (o : Fin 16) (s : State) : (clearOverride o s).tune = s.tune := rfl
@[simp] theorem clearOverride_link (o : Fin 16) (s : State) : (clearOverride o s).link = s.link := rfl
@[simp] theorem clearOverride_pending (o : Fin 16) (s : State) : (clearOverride o s).pending = s.pending := rfl

/-! `modJob` changes `tune` alone. -/

@[simp] theorem modJob_powered (f : Job → Job) (s : State) : (modJob f s).powered = s.powered := rfl
@[simp] theorem modJob_resetLow (f : Job → Job) (s : State) : (modJob f s).resetLow = s.resetLow := rfl
@[simp] theorem modJob_table (f : Job → Job) (s : State) : (modJob f s).table = s.table := rfl
@[simp] theorem modJob_assigner (f : Job → Job) (s : State) : (modJob f s).assigner = s.assigner := rfl
@[simp] theorem modJob_refresh (f : Job → Job) (s : State) : (modJob f s).refresh = s.refresh := rfl
@[simp] theorem modJob_params (f : Job → Job) (s : State) : (modJob f s).params = s.params := rfl
@[simp] theorem modJob_scanner (f : Job → Job) (s : State) : (modJob f s).scanner = s.scanner := rfl
@[simp] theorem modJob_matrix (f : Job → Job) (s : State) : (modJob f s).matrix = s.matrix := rfl
@[simp] theorem modJob_memory (f : Job → Job) (s : State) : (modJob f s).memory = s.memory := rfl
@[simp] theorem modJob_link (f : Job → Job) (s : State) : (modJob f s).link = s.link := rfl
@[simp] theorem modJob_pending (f : Job → Job) (s : State) : (modJob f s).pending = s.pending := rfl

/-! `writePoint` changes `tune` alone. -/

@[simp] theorem writePoint_powered (o : Fin 16) (k : Fin 8) (f : Point → Point) (s : State) : (writePoint o k f s).powered = s.powered := rfl
@[simp] theorem writePoint_resetLow (o : Fin 16) (k : Fin 8) (f : Point → Point) (s : State) : (writePoint o k f s).resetLow = s.resetLow := rfl
@[simp] theorem writePoint_table (o : Fin 16) (k : Fin 8) (f : Point → Point) (s : State) : (writePoint o k f s).table = s.table := rfl
@[simp] theorem writePoint_assigner (o : Fin 16) (k : Fin 8) (f : Point → Point) (s : State) : (writePoint o k f s).assigner = s.assigner := rfl
@[simp] theorem writePoint_refresh (o : Fin 16) (k : Fin 8) (f : Point → Point) (s : State) : (writePoint o k f s).refresh = s.refresh := rfl
@[simp] theorem writePoint_params (o : Fin 16) (k : Fin 8) (f : Point → Point) (s : State) : (writePoint o k f s).params = s.params := rfl
@[simp] theorem writePoint_scanner (o : Fin 16) (k : Fin 8) (f : Point → Point) (s : State) : (writePoint o k f s).scanner = s.scanner := rfl
@[simp] theorem writePoint_matrix (o : Fin 16) (k : Fin 8) (f : Point → Point) (s : State) : (writePoint o k f s).matrix = s.matrix := rfl
@[simp] theorem writePoint_memory (o : Fin 16) (k : Fin 8) (f : Point → Point) (s : State) : (writePoint o k f s).memory = s.memory := rfl
@[simp] theorem writePoint_link (o : Fin 16) (k : Fin 8) (f : Point → Point) (s : State) : (writePoint o k f s).link = s.link := rfl
@[simp] theorem writePoint_pending (o : Fin 16) (k : Fin 8) (f : Point → Point) (s : State) : (writePoint o k f s).pending = s.pending := rfl

/-! `loadSlot` changes `refresh` alone. -/

@[simp] theorem loadSlot_powered (code : Nat) (carried : Bool) (s : State) : (loadSlot code carried s).powered = s.powered := rfl
@[simp] theorem loadSlot_resetLow (code : Nat) (carried : Bool) (s : State) : (loadSlot code carried s).resetLow = s.resetLow := rfl
@[simp] theorem loadSlot_table (code : Nat) (carried : Bool) (s : State) : (loadSlot code carried s).table = s.table := rfl
@[simp] theorem loadSlot_assigner (code : Nat) (carried : Bool) (s : State) : (loadSlot code carried s).assigner = s.assigner := rfl
@[simp] theorem loadSlot_params (code : Nat) (carried : Bool) (s : State) : (loadSlot code carried s).params = s.params := rfl
@[simp] theorem loadSlot_scanner (code : Nat) (carried : Bool) (s : State) : (loadSlot code carried s).scanner = s.scanner := rfl
@[simp] theorem loadSlot_matrix (code : Nat) (carried : Bool) (s : State) : (loadSlot code carried s).matrix = s.matrix := rfl
@[simp] theorem loadSlot_memory (code : Nat) (carried : Bool) (s : State) : (loadSlot code carried s).memory = s.memory := rfl
@[simp] theorem loadSlot_tune (code : Nat) (carried : Bool) (s : State) : (loadSlot code carried s).tune = s.tune := rfl
@[simp] theorem loadSlot_link (code : Nat) (carried : Bool) (s : State) : (loadSlot code carried s).link = s.link := rfl
@[simp] theorem loadSlot_pending (code : Nat) (carried : Bool) (s : State) : (loadSlot code carried s).pending = s.pending := rfl

/-! `leaveRelease` changes `table` alone. -/

@[simp] theorem leaveRelease_powered (v : Fin 8) (s : State) : (leaveRelease v s).powered = s.powered := rfl
@[simp] theorem leaveRelease_resetLow (v : Fin 8) (s : State) : (leaveRelease v s).resetLow = s.resetLow := rfl
@[simp] theorem leaveRelease_assigner (v : Fin 8) (s : State) : (leaveRelease v s).assigner = s.assigner := rfl
@[simp] theorem leaveRelease_refresh (v : Fin 8) (s : State) : (leaveRelease v s).refresh = s.refresh := rfl
@[simp] theorem leaveRelease_params (v : Fin 8) (s : State) : (leaveRelease v s).params = s.params := rfl
@[simp] theorem leaveRelease_scanner (v : Fin 8) (s : State) : (leaveRelease v s).scanner = s.scanner := rfl
@[simp] theorem leaveRelease_matrix (v : Fin 8) (s : State) : (leaveRelease v s).matrix = s.matrix := rfl
@[simp] theorem leaveRelease_memory (v : Fin 8) (s : State) : (leaveRelease v s).memory = s.memory := rfl
@[simp] theorem leaveRelease_tune (v : Fin 8) (s : State) : (leaveRelease v s).tune = s.tune := rfl
@[simp] theorem leaveRelease_link (v : Fin 8) (s : State) : (leaveRelease v s).link = s.link := rfl
@[simp] theorem leaveRelease_pending (v : Fin 8) (s : State) : (leaveRelease v s).pending = s.pending := rfl

/-! `modEntry` changes `assigner` alone. -/

@[simp] theorem modEntry_powered (key : Nat) (f : List (Fin 8) → List (Fin 8)) (s : State) : (modEntry key f s).powered = s.powered := rfl
@[simp] theorem modEntry_resetLow (key : Nat) (f : List (Fin 8) → List (Fin 8)) (s : State) : (modEntry key f s).resetLow = s.resetLow := rfl
@[simp] theorem modEntry_table (key : Nat) (f : List (Fin 8) → List (Fin 8)) (s : State) : (modEntry key f s).table = s.table := rfl
@[simp] theorem modEntry_refresh (key : Nat) (f : List (Fin 8) → List (Fin 8)) (s : State) : (modEntry key f s).refresh = s.refresh := rfl
@[simp] theorem modEntry_params (key : Nat) (f : List (Fin 8) → List (Fin 8)) (s : State) : (modEntry key f s).params = s.params := rfl
@[simp] theorem modEntry_scanner (key : Nat) (f : List (Fin 8) → List (Fin 8)) (s : State) : (modEntry key f s).scanner = s.scanner := rfl
@[simp] theorem modEntry_matrix (key : Nat) (f : List (Fin 8) → List (Fin 8)) (s : State) : (modEntry key f s).matrix = s.matrix := rfl
@[simp] theorem modEntry_memory (key : Nat) (f : List (Fin 8) → List (Fin 8)) (s : State) : (modEntry key f s).memory = s.memory := rfl
@[simp] theorem modEntry_tune (key : Nat) (f : List (Fin 8) → List (Fin 8)) (s : State) : (modEntry key f s).tune = s.tune := rfl
@[simp] theorem modEntry_link (key : Nat) (f : List (Fin 8) → List (Fin 8)) (s : State) : (modEntry key f s).link = s.link := rfl
@[simp] theorem modEntry_pending (key : Nat) (f : List (Fin 8) → List (Fin 8)) (s : State) : (modEntry key f s).pending = s.pending := rfl

/-! `removeEntry` changes `assigner` alone. -/

@[simp] theorem removeEntry_powered (key : Nat) (s : State) : (removeEntry key s).powered = s.powered := rfl
@[simp] theorem removeEntry_resetLow (key : Nat) (s : State) : (removeEntry key s).resetLow = s.resetLow := rfl
@[simp] theorem removeEntry_table (key : Nat) (s : State) : (removeEntry key s).table = s.table := rfl
@[simp] theorem removeEntry_refresh (key : Nat) (s : State) : (removeEntry key s).refresh = s.refresh := rfl
@[simp] theorem removeEntry_params (key : Nat) (s : State) : (removeEntry key s).params = s.params := rfl
@[simp] theorem removeEntry_scanner (key : Nat) (s : State) : (removeEntry key s).scanner = s.scanner := rfl
@[simp] theorem removeEntry_matrix (key : Nat) (s : State) : (removeEntry key s).matrix = s.matrix := rfl
@[simp] theorem removeEntry_memory (key : Nat) (s : State) : (removeEntry key s).memory = s.memory := rfl
@[simp] theorem removeEntry_tune (key : Nat) (s : State) : (removeEntry key s).tune = s.tune := rfl
@[simp] theorem removeEntry_link (key : Nat) (s : State) : (removeEntry key s).link = s.link := rfl
@[simp] theorem removeEntry_pending (key : Nat) (s : State) : (removeEntry key s).pending = s.pending := rfl

/-! `leaveWaiting` changes `assigner` alone. -/

@[simp] theorem leaveWaiting_powered (key : Nat) (s : State) : (leaveWaiting key s).powered = s.powered := rfl
@[simp] theorem leaveWaiting_resetLow (key : Nat) (s : State) : (leaveWaiting key s).resetLow = s.resetLow := rfl
@[simp] theorem leaveWaiting_table (key : Nat) (s : State) : (leaveWaiting key s).table = s.table := rfl
@[simp] theorem leaveWaiting_refresh (key : Nat) (s : State) : (leaveWaiting key s).refresh = s.refresh := rfl
@[simp] theorem leaveWaiting_params (key : Nat) (s : State) : (leaveWaiting key s).params = s.params := rfl
@[simp] theorem leaveWaiting_scanner (key : Nat) (s : State) : (leaveWaiting key s).scanner = s.scanner := rfl
@[simp] theorem leaveWaiting_matrix (key : Nat) (s : State) : (leaveWaiting key s).matrix = s.matrix := rfl
@[simp] theorem leaveWaiting_memory (key : Nat) (s : State) : (leaveWaiting key s).memory = s.memory := rfl
@[simp] theorem leaveWaiting_tune (key : Nat) (s : State) : (leaveWaiting key s).tune = s.tune := rfl
@[simp] theorem leaveWaiting_link (key : Nat) (s : State) : (leaveWaiting key s).link = s.link := rfl
@[simp] theorem leaveWaiting_pending (key : Nat) (s : State) : (leaveWaiting key s).pending = s.pending := rfl

/-! `setMonoKey` changes `assigner` alone. -/

@[simp] theorem setMonoKey_powered (key : Option Nat) (s : State) : (setMonoKey key s).powered = s.powered := rfl
@[simp] theorem setMonoKey_resetLow (key : Option Nat) (s : State) : (setMonoKey key s).resetLow = s.resetLow := rfl
@[simp] theorem setMonoKey_table (key : Option Nat) (s : State) : (setMonoKey key s).table = s.table := rfl
@[simp] theorem setMonoKey_refresh (key : Option Nat) (s : State) : (setMonoKey key s).refresh = s.refresh := rfl
@[simp] theorem setMonoKey_params (key : Option Nat) (s : State) : (setMonoKey key s).params = s.params := rfl
@[simp] theorem setMonoKey_scanner (key : Option Nat) (s : State) : (setMonoKey key s).scanner = s.scanner := rfl
@[simp] theorem setMonoKey_matrix (key : Option Nat) (s : State) : (setMonoKey key s).matrix = s.matrix := rfl
@[simp] theorem setMonoKey_memory (key : Option Nat) (s : State) : (setMonoKey key s).memory = s.memory := rfl
@[simp] theorem setMonoKey_tune (key : Option Nat) (s : State) : (setMonoKey key s).tune = s.tune := rfl
@[simp] theorem setMonoKey_link (key : Option Nat) (s : State) : (setMonoKey key s).link = s.link := rfl
@[simp] theorem setMonoKey_pending (key : Option Nat) (s : State) : (setMonoKey key s).pending = s.pending := rfl

/-! `clearAssigner` changes `assigner` alone. -/

@[simp] theorem clearAssigner_powered (s : State) : (clearAssigner s).powered = s.powered := rfl
@[simp] theorem clearAssigner_resetLow (s : State) : (clearAssigner s).resetLow = s.resetLow := rfl
@[simp] theorem clearAssigner_table (s : State) : (clearAssigner s).table = s.table := rfl
@[simp] theorem clearAssigner_refresh (s : State) : (clearAssigner s).refresh = s.refresh := rfl
@[simp] theorem clearAssigner_params (s : State) : (clearAssigner s).params = s.params := rfl
@[simp] theorem clearAssigner_scanner (s : State) : (clearAssigner s).scanner = s.scanner := rfl
@[simp] theorem clearAssigner_matrix (s : State) : (clearAssigner s).matrix = s.matrix := rfl
@[simp] theorem clearAssigner_memory (s : State) : (clearAssigner s).memory = s.memory := rfl
@[simp] theorem clearAssigner_tune (s : State) : (clearAssigner s).tune = s.tune := rfl
@[simp] theorem clearAssigner_link (s : State) : (clearAssigner s).link = s.link := rfl
@[simp] theorem clearAssigner_pending (s : State) : (clearAssigner s).pending = s.pending := rfl

/-! `setEdited` changes `params` alone. -/

@[simp] theorem setEdited_powered (s : State) : (setEdited s).powered = s.powered := rfl
@[simp] theorem setEdited_resetLow (s : State) : (setEdited s).resetLow = s.resetLow := rfl
@[simp] theorem setEdited_table (s : State) : (setEdited s).table = s.table := rfl
@[simp] theorem setEdited_assigner (s : State) : (setEdited s).assigner = s.assigner := rfl
@[simp] theorem setEdited_refresh (s : State) : (setEdited s).refresh = s.refresh := rfl
@[simp] theorem setEdited_scanner (s : State) : (setEdited s).scanner = s.scanner := rfl
@[simp] theorem setEdited_matrix (s : State) : (setEdited s).matrix = s.matrix := rfl
@[simp] theorem setEdited_memory (s : State) : (setEdited s).memory = s.memory := rfl
@[simp] theorem setEdited_tune (s : State) : (setEdited s).tune = s.tune := rfl
@[simp] theorem setEdited_link (s : State) : (setEdited s).link = s.link := rfl
@[simp] theorem setEdited_pending (s : State) : (setEdited s).pending = s.pending := rfl

/-! `setPos` changes `scanner` alone. -/

@[simp] theorem setPos_powered (pos : ScanPos) (s : State) : (setPos pos s).powered = s.powered := rfl
@[simp] theorem setPos_resetLow (pos : ScanPos) (s : State) : (setPos pos s).resetLow = s.resetLow := rfl
@[simp] theorem setPos_table (pos : ScanPos) (s : State) : (setPos pos s).table = s.table := rfl
@[simp] theorem setPos_assigner (pos : ScanPos) (s : State) : (setPos pos s).assigner = s.assigner := rfl
@[simp] theorem setPos_refresh (pos : ScanPos) (s : State) : (setPos pos s).refresh = s.refresh := rfl
@[simp] theorem setPos_params (pos : ScanPos) (s : State) : (setPos pos s).params = s.params := rfl
@[simp] theorem setPos_matrix (pos : ScanPos) (s : State) : (setPos pos s).matrix = s.matrix := rfl
@[simp] theorem setPos_memory (pos : ScanPos) (s : State) : (setPos pos s).memory = s.memory := rfl
@[simp] theorem setPos_tune (pos : ScanPos) (s : State) : (setPos pos s).tune = s.tune := rfl
@[simp] theorem setPos_link (pos : ScanPos) (s : State) : (setPos pos s).link = s.link := rfl
@[simp] theorem setPos_pending (pos : ScanPos) (s : State) : (setPos pos s).pending = s.pending := rfl

/-! `setMatrix` changes `matrix` alone. -/

@[simp] theorem setMatrix_powered (m : Matrix) (s : State) : (setMatrix m s).powered = s.powered := rfl
@[simp] theorem setMatrix_resetLow (m : Matrix) (s : State) : (setMatrix m s).resetLow = s.resetLow := rfl
@[simp] theorem setMatrix_table (m : Matrix) (s : State) : (setMatrix m s).table = s.table := rfl
@[simp] theorem setMatrix_assigner (m : Matrix) (s : State) : (setMatrix m s).assigner = s.assigner := rfl
@[simp] theorem setMatrix_refresh (m : Matrix) (s : State) : (setMatrix m s).refresh = s.refresh := rfl
@[simp] theorem setMatrix_params (m : Matrix) (s : State) : (setMatrix m s).params = s.params := rfl
@[simp] theorem setMatrix_scanner (m : Matrix) (s : State) : (setMatrix m s).scanner = s.scanner := rfl
@[simp] theorem setMatrix_memory (m : Matrix) (s : State) : (setMatrix m s).memory = s.memory := rfl
@[simp] theorem setMatrix_tune (m : Matrix) (s : State) : (setMatrix m s).tune = s.tune := rfl
@[simp] theorem setMatrix_link (m : Matrix) (s : State) : (setMatrix m s).link = s.link := rfl
@[simp] theorem setMatrix_pending (m : Matrix) (s : State) : (setMatrix m s).pending = s.pending := rfl

/-! `setMemory` changes `memory` alone. -/

@[simp] theorem setMemory_powered (m : Memory) (s : State) : (setMemory m s).powered = s.powered := rfl
@[simp] theorem setMemory_resetLow (m : Memory) (s : State) : (setMemory m s).resetLow = s.resetLow := rfl
@[simp] theorem setMemory_table (m : Memory) (s : State) : (setMemory m s).table = s.table := rfl
@[simp] theorem setMemory_assigner (m : Memory) (s : State) : (setMemory m s).assigner = s.assigner := rfl
@[simp] theorem setMemory_refresh (m : Memory) (s : State) : (setMemory m s).refresh = s.refresh := rfl
@[simp] theorem setMemory_params (m : Memory) (s : State) : (setMemory m s).params = s.params := rfl
@[simp] theorem setMemory_scanner (m : Memory) (s : State) : (setMemory m s).scanner = s.scanner := rfl
@[simp] theorem setMemory_matrix (m : Memory) (s : State) : (setMemory m s).matrix = s.matrix := rfl
@[simp] theorem setMemory_tune (m : Memory) (s : State) : (setMemory m s).tune = s.tune := rfl
@[simp] theorem setMemory_link (m : Memory) (s : State) : (setMemory m s).link = s.link := rfl
@[simp] theorem setMemory_pending (m : Memory) (s : State) : (setMemory m s).pending = s.pending := rfl

/-! `setOp` changes `memory` alone. -/

@[simp] theorem setOp_powered (op : MemOp) (s : State) : (setOp op s).powered = s.powered := rfl
@[simp] theorem setOp_resetLow (op : MemOp) (s : State) : (setOp op s).resetLow = s.resetLow := rfl
@[simp] theorem setOp_table (op : MemOp) (s : State) : (setOp op s).table = s.table := rfl
@[simp] theorem setOp_assigner (op : MemOp) (s : State) : (setOp op s).assigner = s.assigner := rfl
@[simp] theorem setOp_refresh (op : MemOp) (s : State) : (setOp op s).refresh = s.refresh := rfl
@[simp] theorem setOp_params (op : MemOp) (s : State) : (setOp op s).params = s.params := rfl
@[simp] theorem setOp_scanner (op : MemOp) (s : State) : (setOp op s).scanner = s.scanner := rfl
@[simp] theorem setOp_matrix (op : MemOp) (s : State) : (setOp op s).matrix = s.matrix := rfl
@[simp] theorem setOp_tune (op : MemOp) (s : State) : (setOp op s).tune = s.tune := rfl
@[simp] theorem setOp_link (op : MemOp) (s : State) : (setOp op s).link = s.link := rfl
@[simp] theorem setOp_pending (op : MemOp) (s : State) : (setOp op s).pending = s.pending := rfl

/-! `endOp` changes `memory` alone. -/

@[simp] theorem endOp_powered (s : State) : (endOp s).powered = s.powered := rfl
@[simp] theorem endOp_resetLow (s : State) : (endOp s).resetLow = s.resetLow := rfl
@[simp] theorem endOp_table (s : State) : (endOp s).table = s.table := rfl
@[simp] theorem endOp_assigner (s : State) : (endOp s).assigner = s.assigner := rfl
@[simp] theorem endOp_refresh (s : State) : (endOp s).refresh = s.refresh := rfl
@[simp] theorem endOp_params (s : State) : (endOp s).params = s.params := rfl
@[simp] theorem endOp_scanner (s : State) : (endOp s).scanner = s.scanner := rfl
@[simp] theorem endOp_matrix (s : State) : (endOp s).matrix = s.matrix := rfl
@[simp] theorem endOp_tune (s : State) : (endOp s).tune = s.tune := rfl
@[simp] theorem endOp_link (s : State) : (endOp s).link = s.link := rfl
@[simp] theorem endOp_pending (s : State) : (endOp s).pending = s.pending := rfl

/-! `setReceiver` changes `link` alone. -/

@[simp] theorem setReceiver_powered (rx : Receiver) (s : State) : (setReceiver rx s).powered = s.powered := rfl
@[simp] theorem setReceiver_resetLow (rx : Receiver) (s : State) : (setReceiver rx s).resetLow = s.resetLow := rfl
@[simp] theorem setReceiver_table (rx : Receiver) (s : State) : (setReceiver rx s).table = s.table := rfl
@[simp] theorem setReceiver_assigner (rx : Receiver) (s : State) : (setReceiver rx s).assigner = s.assigner := rfl
@[simp] theorem setReceiver_refresh (rx : Receiver) (s : State) : (setReceiver rx s).refresh = s.refresh := rfl
@[simp] theorem setReceiver_params (rx : Receiver) (s : State) : (setReceiver rx s).params = s.params := rfl
@[simp] theorem setReceiver_scanner (rx : Receiver) (s : State) : (setReceiver rx s).scanner = s.scanner := rfl
@[simp] theorem setReceiver_matrix (rx : Receiver) (s : State) : (setReceiver rx s).matrix = s.matrix := rfl
@[simp] theorem setReceiver_memory (rx : Receiver) (s : State) : (setReceiver rx s).memory = s.memory := rfl
@[simp] theorem setReceiver_tune (rx : Receiver) (s : State) : (setReceiver rx s).tune = s.tune := rfl
@[simp] theorem setReceiver_pending (rx : Receiver) (s : State) : (setReceiver rx s).pending = s.pending := rfl

/-! `clearReceiver` changes `link` alone. -/

@[simp] theorem clearReceiver_powered (s : State) : (clearReceiver s).powered = s.powered := rfl
@[simp] theorem clearReceiver_resetLow (s : State) : (clearReceiver s).resetLow = s.resetLow := rfl
@[simp] theorem clearReceiver_table (s : State) : (clearReceiver s).table = s.table := rfl
@[simp] theorem clearReceiver_assigner (s : State) : (clearReceiver s).assigner = s.assigner := rfl
@[simp] theorem clearReceiver_refresh (s : State) : (clearReceiver s).refresh = s.refresh := rfl
@[simp] theorem clearReceiver_params (s : State) : (clearReceiver s).params = s.params := rfl
@[simp] theorem clearReceiver_scanner (s : State) : (clearReceiver s).scanner = s.scanner := rfl
@[simp] theorem clearReceiver_matrix (s : State) : (clearReceiver s).matrix = s.matrix := rfl
@[simp] theorem clearReceiver_memory (s : State) : (clearReceiver s).memory = s.memory := rfl
@[simp] theorem clearReceiver_tune (s : State) : (clearReceiver s).tune = s.tune := rfl
@[simp] theorem clearReceiver_pending (s : State) : (clearReceiver s).pending = s.pending := rfl

/-! `captureCell` changes `refresh` alone. -/

@[simp] theorem captureCell_powered (s : State) : (captureCell s).powered = s.powered := rfl
@[simp] theorem captureCell_resetLow (s : State) : (captureCell s).resetLow = s.resetLow := rfl
@[simp] theorem captureCell_table (s : State) : (captureCell s).table = s.table := rfl
@[simp] theorem captureCell_assigner (s : State) : (captureCell s).assigner = s.assigner := rfl
@[simp] theorem captureCell_params (s : State) : (captureCell s).params = s.params := rfl
@[simp] theorem captureCell_scanner (s : State) : (captureCell s).scanner = s.scanner := rfl
@[simp] theorem captureCell_matrix (s : State) : (captureCell s).matrix = s.matrix := rfl
@[simp] theorem captureCell_memory (s : State) : (captureCell s).memory = s.memory := rfl
@[simp] theorem captureCell_tune (s : State) : (captureCell s).tune = s.tune := rfl
@[simp] theorem captureCell_link (s : State) : (captureCell s).link = s.link := rfl
@[simp] theorem captureCell_pending (s : State) : (captureCell s).pending = s.pending := rfl

/-! `advanceSlot` changes `refresh` alone. -/

@[simp] theorem advanceSlot_powered (s : State) : (advanceSlot s).powered = s.powered := rfl
@[simp] theorem advanceSlot_resetLow (s : State) : (advanceSlot s).resetLow = s.resetLow := rfl
@[simp] theorem advanceSlot_table (s : State) : (advanceSlot s).table = s.table := rfl
@[simp] theorem advanceSlot_assigner (s : State) : (advanceSlot s).assigner = s.assigner := rfl
@[simp] theorem advanceSlot_params (s : State) : (advanceSlot s).params = s.params := rfl
@[simp] theorem advanceSlot_scanner (s : State) : (advanceSlot s).scanner = s.scanner := rfl
@[simp] theorem advanceSlot_matrix (s : State) : (advanceSlot s).matrix = s.matrix := rfl
@[simp] theorem advanceSlot_memory (s : State) : (advanceSlot s).memory = s.memory := rfl
@[simp] theorem advanceSlot_tune (s : State) : (advanceSlot s).tune = s.tune := rfl
@[simp] theorem advanceSlot_link (s : State) : (advanceSlot s).link = s.link := rfl
@[simp] theorem advanceSlot_pending (s : State) : (advanceSlot s).pending = s.pending := rfl

end Sys2Proof.Machine
end

