-- ==== Sys2Proof/Laws/Records.lean ====
section
/-! SUPPORT. Reading a record of a table after an update of one record: a place of a table is its value, and an update of one
voice, parameter, knob, channel or override leaves every other where it was. -/

namespace Sys2Proof

@[simp] theorem tab_get {α : Type} {n : Nat} (f : Fin n → α) (i : Fin n) : (tab f)[i] = f i := by simp [tab]

theorem upd_get {α : Type} {n : Nat} (t : Vector α n) (i j : Fin n) (f : α → α) :
    (upd t i f)[j] = if i = j then f t[i] else t[j] := by
  simp [upd, Vector.getElem_set, Fin.ext_iff]

@[simp] theorem upd_get_self {α : Type} {n : Nat} (t : Vector α n) (i : Fin n) (f : α → α) : (upd t i f)[i] = f t[i] := by
  rw [upd_get, if_pos rfl]

theorem upd_get_other {α : Type} {n : Nat} (t : Vector α n) {i j : Fin n} (h : i ≠ j) (f : α → α) : (upd t i f)[j] = t[j] := by
  rw [upd_get, if_neg h]

end Sys2Proof

namespace Sys2Proof.Machine

theorem modVoice_voice (v w : Fin 8) (f : Voice → Voice) (s : State) :
    (modVoice v f s).voice w = if v = w then f (s.voice v) else s.voice w := by
  exact upd_get _ _ _ _

@[simp] theorem modVoice_voice_self (v : Fin 8) (f : Voice → Voice) (s : State) : (modVoice v f s).voice v = f (s.voice v) := by
  rw [modVoice_voice, if_pos rfl]

@[simp] theorem modVoice_startOrder (v : Fin 8) (f : Voice → Voice) (s : State) :
    (modVoice v f s).table.startOrder = s.table.startOrder := rfl

@[simp] theorem modVoice_releaseOrder (v : Fin 8) (f : Voice → Voice) (s : State) :
    (modVoice v f s).table.releaseOrder = s.table.releaseOrder := rfl

@[simp] theorem modVoice_rotate (v : Fin 8) (f : Voice → Voice) (s : State) :
    (modVoice v f s).table.rotate = s.table.rotate := rfl

theorem modParam_record (p q : Fin 64) (f : Param → Param) (s : State) :
    (modParam p f s).params.records[q] = if p = q then f s.params.records[p] else s.params.records[q] := by
  exact upd_get _ _ _ _

theorem modKnob_record (j k : Fin 48) (f : Knob → Knob) (s : State) :
    (modKnob j f s).scanner.knobs[k] = if j = k then f s.scanner.knobs[j] else s.scanner.knobs[k] := by
  exact upd_get _ _ _ _

theorem modChannel_record (c d : Fin 4) (f : Channel → Channel) (s : State) :
    (modChannel c f s).tune.channels[d] = if c = d then f s.tune.channels[c] else s.tune.channels[d] := by
  exact upd_get _ _ _ _

theorem modOverride_record (o p : Fin 16) (f : Override → Override) (s : State) :
    (modOverride o f s).refresh.overrides[p] = if o = p then f s.refresh.overrides[o] else s.refresh.overrides[p] := by
  exact upd_get _ _ _ _

/-- A voice is unchanged by every update that leaves the Voice Table alone. -/
theorem voice_of_table {s t : State} (h : t.table = s.table) (v : Fin 8) : t.voice v = s.voice v := by
  simp [State.voice, h]

end Sys2Proof.Machine
end

