-- ==== Sys2Proof/Laws/Link.lean ====
section
/-! SUPPORT. What the shared operations of the control link do, each said once: the taking of a frame, the refusal during
start-up, the transmitter, and a run of steps. -/

namespace Sys2Proof.Machine

/-- A run whose first step answers `t` goes on from `t`. -/
theorem run_next {n : Nat} {s t : State} (h : step s = .next t) :
    Sys2Proof.core.run (n + 1) s = Sys2Proof.core.run n t := by
  have h' : Sys2Proof.core.step s = .next t := h
  exact (Host.Core.run.eq_2 Sys2Proof.core s n).trans (by rw [h'])

theorem run_zero (s : State) : Sys2Proof.core.run 0 s = .next s := rfl

theorem whenRunning_of {f : State → State} {s : State} (h : s.running = true) : whenRunning f s = f s := if_pos h

theorem whenRunning_not {f : State → State} {s : State} (h : s.running = false) : whenRunning f s = s := by
  simp [whenRunning, h]

theorem clampNat_succ (hi a : Nat) : clampNat 0 hi (a + 1) = min hi (a + 1) := by
  unfold clampNat
  split <;> [omega; split] <;> omega

/-- The transmitter at the end of an event. -/
theorem transmit_eq (s : State) : transmit s = s.sending := by
  unfold transmit State.sending Link.sending
  cases h : s.link.tx <;> rfl

/-- What taking a sound frame begins with. -/
theorem received_eq (s : State) :
    { clearReceiver s with link := { (clearReceiver s).link with valid := clampNat 0 65535 ((clearReceiver s).link.valid + 1) } } =
      s.received := by
  simp [clearReceiver, State.received, Link.received, clampNat_succ]

theorem queueReply_room {kind : Byte} {body : List Byte} {s : State} (h : s.link.replies.length < 8) :
    (queueReply kind body s).sending = State.answered kind body s := by
  simp [queueReply, h, State.answered]

/-- A frame whose block answers `body`, with room for the reply before and after. -/
theorem takeFrame_answered {play : Bool} {kind : Byte} {own : State → State × Option (List Byte)} {s s' : State}
    {body : List Byte} (h : s.link.replies.length < 8) (ho : own s.received = (s', some body))
    (hq : s'.link.replies.length < 8) : takeFrame play kind own s = State.answered kind body s' := by
  have e : decide (8 ≤ (clearReceiver s).link.replies.length) = false :=
    decide_eq_false (show ¬ 8 ≤ s.link.replies.length by omega)
  unfold takeFrame
  simp only [e, Bool.and_false, received_eq, ho, transmit_eq, Bool.false_eq_true, if_false]
  exact queueReply_room hq

/-- A play message whose block answers nothing. -/
theorem takeFrame_silent {kind : Byte} {own : State → State × Option (List Byte)} {s s' : State}
    (ho : own s.received = (s', none)) : takeFrame true kind own s = s'.sending := by
  unfold takeFrame
  simp only [Bool.not_true, Bool.false_and, received_eq, ho, transmit_eq, Bool.false_eq_true, if_false]

/-- A request with eight replies held is discarded (R176). -/
theorem takeFrame_overrun {kind : Byte} {own : State → State × Option (List Byte)} {s : State} (h : 8 ≤ s.link.replies.length) :
    takeFrame false kind own s = { s with link := { s.link with
      rx := Receiver.idle, discarded := min 255 (s.link.discarded + 1), flags := { s.link.flags with overrun := true } } } := by
  have e : decide (8 ≤ (clearReceiver s).link.replies.length) = true := decide_eq_true h
  unfold takeFrame
  simp only [e, Bool.not_false, Bool.and_self, if_true]
  simp [clearReceiver, setOverrun, countDiscarded, clampNat_succ]

theorem servedWhenReady_loading {own : State → State × Option (List Byte)} {s : State} (h : s.memory.ready = false) :
    servedWhenReady own s = (s, some [0x06]) := by
  simp [servedWhenReady, State.loading, h, answer, codeByte]

theorem servedWhenReady_ready {own : State → State × Option (List Byte)} {s : State} (h : s.memory.ready = true) :
    servedWhenReady own s = own s := by
  simp [servedWhenReady, State.loading, h]

theorem servedWhenFree_free {own : State → State × Option (List Byte)} {s : State} (h : s.memory.ready = true)
    (ho : s.memory.op = none) : servedWhenFree own s = own s := by
  simp [servedWhenFree, servedWhenReady, State.loading, State.busy, h, ho]

theorem servedWhenFree_busy {own : State → State × Option (List Byte)} {s : State} (h : s.memory.ready = true)
    (ho : s.memory.op ≠ none) : servedWhenFree own s = (s, some [0x02]) := by
  have : s.memory.op.isSome = true := Option.isSome_iff_ne_none.mpr ho
  simp [servedWhenFree, servedWhenReady, State.loading, State.busy, h, this, answer, codeByte]

@[simp] theorem received_memory (s : State) : s.received.memory = s.memory := rfl
@[simp] theorem received_table (s : State) : s.received.table = s.table := rfl
@[simp] theorem received_assigner (s : State) : s.received.assigner = s.assigner := rfl
@[simp] theorem received_refresh (s : State) : s.received.refresh = s.refresh := rfl
@[simp] theorem received_params (s : State) : s.received.params = s.params := rfl
@[simp] theorem received_scanner (s : State) : s.received.scanner = s.scanner := rfl
@[simp] theorem received_matrix (s : State) : s.received.matrix = s.matrix := rfl
@[simp] theorem received_tune (s : State) : s.received.tune = s.tune := rfl
@[simp] theorem received_pending (s : State) : s.received.pending = s.pending := rfl
@[simp] theorem received_replies (s : State) : s.received.link.replies = s.link.replies := rfl
@[simp] theorem received_reports (s : State) : s.received.link.reports = s.link.reports := rfl
@[simp] theorem received_tx (s : State) : s.received.link.tx = s.link.tx := rfl

/-- Every field but the link is the state's own behind `answered` and `sending`. -/
@[simp] theorem sending_memory (s : State) : s.sending.memory = s.memory := rfl
@[simp] theorem sending_table (s : State) : s.sending.table = s.table := rfl
@[simp] theorem sending_assigner (s : State) : s.sending.assigner = s.assigner := rfl
@[simp] theorem sending_refresh (s : State) : s.sending.refresh = s.refresh := rfl
@[simp] theorem sending_params (s : State) : s.sending.params = s.params := rfl
@[simp] theorem sending_scanner (s : State) : s.sending.scanner = s.scanner := rfl
@[simp] theorem sending_matrix (s : State) : s.sending.matrix = s.matrix := rfl
@[simp] theorem sending_tune (s : State) : s.sending.tune = s.tune := rfl
@[simp] theorem sending_pending (s : State) : s.sending.pending = s.pending := rfl
@[simp] theorem answered_memory (k : Byte) (b : List Byte) (s : State) : (State.answered k b s).memory = s.memory := rfl
@[simp] theorem answered_table (k : Byte) (b : List Byte) (s : State) : (State.answered k b s).table = s.table := rfl
@[simp] theorem answered_assigner (k : Byte) (b : List Byte) (s : State) : (State.answered k b s).assigner = s.assigner := rfl
@[simp] theorem answered_refresh (k : Byte) (b : List Byte) (s : State) : (State.answered k b s).refresh = s.refresh := rfl
@[simp] theorem answered_params (k : Byte) (b : List Byte) (s : State) : (State.answered k b s).params = s.params := rfl
@[simp] theorem answered_scanner (k : Byte) (b : List Byte) (s : State) : (State.answered k b s).scanner = s.scanner := rfl
@[simp] theorem answered_matrix (k : Byte) (b : List Byte) (s : State) : (State.answered k b s).matrix = s.matrix := rfl
@[simp] theorem answered_tune (k : Byte) (b : List Byte) (s : State) : (State.answered k b s).tune = s.tune := rfl
@[simp] theorem answered_pending (k : Byte) (b : List Byte) (s : State) : (State.answered k b s).pending = s.pending := rfl

end Sys2Proof.Machine
end

