-- ==== Sys2Proof/Laws/Params.lean ====
section
/-! SUPPORT. What the shared operations of the parameter table and of the report queue can do, each said once: a write of
one parameter, the end of a morph, the pickup re-evaluation, an override write, and the offer of a report. -/

namespace Sys2Proof.Machine

/-- An offer changes nothing but the report queue and its lost mark. -/
theorem offer_spec (bypass : Bool) (item : Report) (s : State) :
    offer bypass item s =
      if bypass = true ∨ s.link.mask.getLsbD (reportIndex item) = true then { s with link := admitItem item s.link } else s := by
  cases bypass <;> simp [offer]

/-- Admission leaves every field of the link but the reports and the lost mark alone. -/
theorem admitItem_frame (item : Report) (l : Link) :
    (admitItem item l).rx = l.rx ∧ (admitItem item l).valid = l.valid ∧ (admitItem item l).discarded = l.discarded ∧
      (admitItem item l).flags = l.flags ∧ (admitItem item l).replies = l.replies ∧ (admitItem item l).mask = l.mask ∧
      (admitItem item l).tx = l.tx := by
  have below : ∀ n (k : Link), k.rx = l.rx ∧ k.valid = l.valid ∧ k.discarded = l.discarded ∧ k.flags = l.flags ∧
      k.replies = l.replies ∧ k.mask = l.mask ∧ k.tx = l.tx →
      (admitBelow n item k).rx = l.rx ∧ (admitBelow n item k).valid = l.valid ∧ (admitBelow n item k).discarded = l.discarded ∧
      (admitBelow n item k).flags = l.flags ∧ (admitBelow n item k).replies = l.replies ∧ (admitBelow n item k).mask = l.mask ∧
      (admitBelow n item k).tx = l.tx := by
    intro n k h
    unfold admitBelow
    split <;> exact h
  unfold admitItem
  split
  · unfold admitCompletion
    split
    · exact ⟨rfl, rfl, rfl, rfl, rfl, rfl, rfl⟩
    · split <;> exact ⟨rfl, rfl, rfl, rfl, rfl, rfl, rfl⟩
  · exact below 88 l ⟨rfl, rfl, rfl, rfl, rfl, rfl, rfl⟩
  · unfold admitCoalesced
    split
    · exact below 96 l ⟨rfl, rfl, rfl, rfl, rfl, rfl, rfl⟩
    · split
      · exact below 96 _ ⟨rfl, rfl, rfl, rfl, rfl, rfl, rfl⟩
      · exact ⟨rfl, rfl, rfl, rfl, rfl, rfl, rfl⟩

/-- The report queue never outgrows its 96 places by an admission (R177). -/
theorem admitItem_bounded (item : Report) (l : Link) (h : l.reports.length ≤ 96) : (admitItem item l).reports.length ≤ 96 := by
  have drops : ∀ rs rs' : List Report, dropOldestLoss rs = some rs' → rs'.length + 1 = rs.length := by
    intro rs
    induction rs with
    | nil => intro rs' e; cases e
    | cons r rs ih =>
      intro rs' e
      unfold dropOldestLoss at e
      split at e
      · obtain ⟨t, ht, rfl⟩ := Option.map_eq_some_iff.mp e
        simp [ih t ht]
      · cases e
        rfl
  have below : ∀ n (k : Link), n ≤ 96 → k.reports.length ≤ 96 → (admitBelow n item k).reports.length ≤ 96 := by
    intro n k hn hk
    unfold admitBelow
    split
    · simp only [List.length_append, List.length_singleton]
      omega
    · exact hk
  unfold admitItem
  split
  · unfold admitCompletion
    split
    · simp only [List.length_append, List.length_singleton]
      omega
    · split
      · next rs' e =>
        have := drops _ _ e
        simp only [List.length_append, List.length_singleton]
        omega
      · simp only [List.length_append, List.length_drop, List.length_singleton]
        omega
  · exact below 88 l (by decide) h
  · unfold admitCoalesced
    split
    · exact below 96 l (by decide) h
    · split
      · exact below 96 _ (by decide) (Nat.le_trans (List.length_eraseIdx_le ..) h)
      · simpa using h

/-- The end of a last morph changes nothing but the morph length (R84). -/
theorem settleMorphLength_spec (s : State) :
    (settleMorphLength s).params.records = s.params.records ∧
      (settleMorphLength s).params.morphLength = (if anyMorphing s.params.records then s.params.morphLength else none) ∧
      (settleMorphLength s).params.morphTime = s.params.morphTime ∧
      (settleMorphLength s).params.currentSlot = s.params.currentSlot ∧ (settleMorphLength s).params.edited = s.params.edited := by
  unfold settleMorphLength ParamTable.settled
  dsimp only
  split <;> exact ⟨rfl, rfl, rfl, rfl, rfl⟩

/-- The morph steps of a tick (R84): each record makes its own, and the morph length ends with the last morph. -/
theorem stepMorphs_spec (t : ParamTable) (len : Nat) (h : t.morphLength = some len) :
    (∀ p : Fin 64, (stepMorphs t).records[p] = morphStep len t.records[p]) ∧
      (stepMorphs t).morphLength = (if anyMorphing (stepMorphs t).records then some len else none) ∧
      (stepMorphs t).morphTime = t.morphTime ∧ (stepMorphs t).currentSlot = t.currentSlot ∧ (stepMorphs t).edited = t.edited := by
  have e : stepMorphs t = { t with records := tab fun p => morphStep len t.records[p] }.settled := by
    unfold stepMorphs
    rw [h]
  rw [e]
  unfold ParamTable.settled
  split
  · exact ⟨fun p => tab_get _ p, h, rfl, rfl, rfl⟩
  · exact ⟨fun p => tab_get _ p, rfl, rfl, rfl, rfl⟩

/-- After a morph step a record that still morphs is short of the length (R77). -/
theorem morphStep_elapsed (len : Nat) (r : Param) (m : Morph) (h : (morphStep len r).morph = some m) : m.elapsed < len := by
  unfold morphStep at h
  split at h
  · split at h
    · next lt => cases h; exact lt
    · cases h
  · next none => rw [none] at h; cases h

/-- A write of one parameter (R81, R82): its record, every other record, and the edited flag. -/
theorem writeParam_spec (p : Fin 64) (value : Nat) (source : ParamSource) (s : State) :
    (∀ q : Fin 64, (writeParam p value source s).params.records[q] =
        if p = q then { value, target := value, source, morph := none } else s.params.records[q]) ∧
      (writeParam p value source s).params.edited = true ∧
      (writeParam p value source s).params.morphTime = s.params.morphTime ∧
      (writeParam p value source s).params.currentSlot = s.params.currentSlot := by
  have h := settleMorphLength_spec (modParam p (fun _ => { value, target := value, source, morph := none }) s)
  refine ⟨fun q => ?_, rfl, h.2.2.1, h.2.2.2.1⟩
  have e : (writeParam p value source s).params.records =
      (modParam p (fun _ => { value, target := value, source, morph := none }) s).params.records := h.1
  rw [e]
  exact modParam_record p q _ s

/-- The pickup re-evaluation changes nothing of a knob but its pickup state (R100). -/
theorem reevaluateKnob_frame (mode : PickupMode) (d : Nat) (written : Fin 64 → Bool) (records : Vector Param 64) (k : Knob) :
    reevaluateKnob mode d written records k = { k with pickup := (reevaluateKnob mode d written records k).pickup } := by
  unfold reevaluateKnob
  split
  · split <;> rfl
  · rfl

@[simp] theorem reevaluate_powered (written : Fin 64 → Bool) (s : State) : (reevaluate written s).powered = s.powered := by
  simp only [reevaluate]

@[simp] theorem reevaluate_resetLow (written : Fin 64 → Bool) (s : State) : (reevaluate written s).resetLow = s.resetLow := by
  simp only [reevaluate]

@[simp] theorem reevaluate_table (written : Fin 64 → Bool) (s : State) : (reevaluate written s).table = s.table := by
  simp only [reevaluate]

@[simp] theorem reevaluate_assigner (written : Fin 64 → Bool) (s : State) : (reevaluate written s).assigner = s.assigner := by
  simp only [reevaluate]

@[simp] theorem reevaluate_refresh (written : Fin 64 → Bool) (s : State) : (reevaluate written s).refresh = s.refresh := by
  simp only [reevaluate]

@[simp] theorem reevaluate_params (written : Fin 64 → Bool) (s : State) : (reevaluate written s).params = s.params := by
  simp only [reevaluate]

@[simp] theorem reevaluate_matrix (written : Fin 64 → Bool) (s : State) : (reevaluate written s).matrix = s.matrix := by
  simp only [reevaluate]

@[simp] theorem reevaluate_memory (written : Fin 64 → Bool) (s : State) : (reevaluate written s).memory = s.memory := by
  simp only [reevaluate]

@[simp] theorem reevaluate_tune (written : Fin 64 → Bool) (s : State) : (reevaluate written s).tune = s.tune := by
  simp only [reevaluate]

@[simp] theorem reevaluate_link (written : Fin 64 → Bool) (s : State) : (reevaluate written s).link = s.link := by
  simp only [reevaluate]

@[simp] theorem reevaluate_pending (written : Fin 64 → Bool) (s : State) : (reevaluate written s).pending = s.pending := by
  simp only [reevaluate]

/-- The re-evaluation over the knobs (R100): each knob takes its own. -/
theorem reevaluate_knob (written : Fin 64 → Bool) (s : State) (k : Fin 48) :
    (reevaluate written s).scanner.knobs[k] =
      reevaluateKnob s.scanner.mode s.scanner.inEffect.deadband written s.params.records s.scanner.knobs[k] := by
  unfold reevaluate
  dsimp only
  rw [tab_get]

/-- An override write (R72): the oscillator's line, and every other line as it was. -/
theorem writeOverride_spec (o p : Fin 16) (code : Nat) (s : State) :
    (writeOverride o code s).refresh.overrides[p] =
      if o = p then { code := code, valid := true, loadPending := true } else s.refresh.overrides[p] :=
  modOverride_record o p _ s

/-- An override clear (R74). -/
theorem clearOverride_spec (o p : Fin 16) (s : State) :
    (clearOverride o s).refresh.overrides[p] = if o = p then Override.clear else s.refresh.overrides[p] :=
  modOverride_record o p _ s

end Sys2Proof.Machine
end

