-- ==== Sys2Proof/Laws/Store.lean ====
section
/-! SUPPORT. The store: reading after writing, and that every operation over it keeps its canonical form. -/

namespace Sys2Proof.Machine

variable {β : Type} [DecidableEq β]

omit [DecidableEq β] in
/-- What is above `a` is above everything below `a`. -/
theorem sparseAbove_mono {a b : Nat} (h : a ≤ b) {l : List (Nat × β)} (hl : sparseAbove b l = true) :
    sparseAbove a l = true := by
  simp only [sparseAbove, List.all_eq_true, decide_eq_true_eq] at *
  exact fun e he => lt_of_le_of_lt h (hl e he)

theorem sparseAbove_write {d : β} {k a : Nat} {b : β} (h : k < a) {l : List (Nat × β)} (hl : sparseAbove k l = true) :
    sparseAbove k (sparseWrite d l a b) = true := by
  induction l with
  | nil => unfold sparseWrite; split <;> simp [sparseAbove, h]
  | cons e l ih =>
    obtain ⟨j, v⟩ := e
    simp only [sparseAbove, List.all_cons, Bool.and_eq_true, decide_eq_true_eq] at hl ih ⊢
    unfold sparseWrite
    split
    · split <;> simp_all <;> exact hl.2
    · split
      · split <;> simp_all <;> exact hl.2
      · simp_all
        exact ih

/-- A write keeps the canonical form. -/
theorem sparseWrite_wf {d : β} (l : List (Nat × β)) (a : Nat) (b : β) (hl : sparseWf d l = true) :
    sparseWf d (sparseWrite d l a b) = true := by
  induction l with
  | nil => unfold sparseWrite; split <;> simp_all [sparseWf, sparseAbove]
  | cons e l ih =>
    obtain ⟨k, v⟩ := e
    simp only [sparseWf, Bool.and_eq_true, decide_eq_true_eq] at hl
    obtain ⟨⟨hv, hk⟩, hw⟩ := hl
    unfold sparseWrite
    split
    · rename_i hlt
      split
      · simp [sparseWf, hv, hk, hw]
      · rename_i hb
        have : sparseAbove a ((k, v) :: l) = true := by
          have := sparseAbove_mono (Nat.le_of_lt hlt) hk
          simp only [sparseAbove, List.all_cons, Bool.and_eq_true, decide_eq_true_eq] at this ⊢
          exact ⟨hlt, this⟩
        simp [sparseWf, hv, hk, hw, hb, this]
    · rename_i hge
      split
      · rename_i heq
        split
        · exact hw
        · rename_i hb
          simp [sparseWf, hb, hw, heq, hk]
      · rename_i hne
        have h : k < a := by omega
        simp [sparseWf, hv, sparseAbove_write h hk, ih hw]

omit [DecidableEq β] in
/-- An address at or below everything listed reads as the default. -/
theorem sparseRead_above {d : β} {a : Nat} {l : List (Nat × β)} (h : sparseAbove a l = true) : sparseRead d l a = d := by
  induction l with
  | nil => rfl
  | cons e l ih =>
    obtain ⟨k, v⟩ := e
    simp only [sparseAbove, List.all_cons, Bool.and_eq_true, decide_eq_true_eq] at h
    have : k ≠ a := by omega
    simp [sparseRead, this, ih h.2]

/-- Reading after a write to a canonical list: the written address gives what was written, every other what it gave. -/
theorem sparseRead_write {d : β} (l : List (Nat × β)) (a c : Nat) (b : β) (hl : sparseWf d l = true) :
    sparseRead d (sparseWrite d l a b) c = if a = c then b else sparseRead d l c := by
  induction l with
  | nil => unfold sparseWrite; split <;> simp_all [sparseRead]
  | cons e l ih =>
    obtain ⟨k, v⟩ := e
    simp only [sparseWf, Bool.and_eq_true, decide_eq_true_eq] at hl
    obtain ⟨⟨hv, hk⟩, hw⟩ := hl
    unfold sparseWrite
    split
    · rename_i hlt
      split
      · rename_i hb
        split
        · rename_i hac
          subst hac
          have : k ≠ a := by omega
          simp [sparseRead, this, hb, sparseRead_above (sparseAbove_mono (Nat.le_of_lt hlt) hk)]
        · rfl
      · simp [sparseRead]
    · split
      · rename_i heq
        subst heq
        split
        · rename_i hb
          split
          · rename_i hac
            subst hac
            simp [hb, sparseRead_above hk]
          · rename_i hac
            simp [sparseRead, hac]
        · simp only [sparseRead]
          split <;> simp_all
      · rename_i hne
        simp only [sparseRead, ih hw]
        split
        · rename_i h
          have : a ≠ c := by omega
          simp [this]
        · rfl

/-! ### The store's operations keep the canonical form -/

theorem writeCells_wf (is : List Nat) (b : Nat) (d : BitVec 64) (cs : List Host.Cell)
    (h : sparseWf erasedByte cs = true) :
    sparseWf erasedByte (is.foldl (fun cs i => sparseWrite erasedByte cs (8 * b + i) (dataByte d i)) cs) = true := by
  induction is generalizing cs with
  | nil => exact h
  | cons i is ih => exact ih _ (sparseWrite_wf _ _ _ h)

theorem programBlock_wf (b : Nat) (d : BitVec 64) (err : BitVec 72) (st : Store) (h : st.wf = true) :
    (programBlock b d err st).wf = true := by
  simp only [Store.wf, Bool.and_eq_true] at h ⊢
  exact ⟨writeCells_wf _ _ _ _ h.1, sparseWrite_wf _ _ _ h.2⟩

theorem eraseBlock_wf (b : Nat) (st : Store) (h : st.wf = true) : (eraseBlock b st).wf = true :=
  programBlock_wf _ _ _ _ h

theorem eraseBlocks_wf (bs : List Nat) (st : Store) (h : st.wf = true) : (eraseBlocks bs st).wf = true := by
  induction bs generalizing st with
  | nil => exact h
  | cons b bs ih => exact ih _ (eraseBlock_wf b st h)

theorem programBlocks_wf (errs : List BlockBits) (bs : List Nat) (ds : List (BitVec 64)) (st : Store) (h : st.wf = true) :
    (programBlocks errs bs ds st).wf = true := by
  induction bs generalizing ds st with
  | nil => simpa [programBlocks] using h
  | cons b bs ih =>
    cases ds with
    | nil => simpa [programBlocks] using h
    | cons d ds => exact ih _ _ (programBlock_wf _ _ _ _ h)

theorem driftBlocks_wf (ds : List BlockBits) (st : Store) (h : st.wf = true) : (driftBlocks ds st).wf = true := by
  induction ds generalizing st with
  | nil => exact h
  | cons d ds ih =>
    refine ih _ ?_
    dsimp only
    split
    · simp only [Store.wf, Bool.and_eq_true] at h ⊢
      exact ⟨h.1, sparseWrite_wf _ _ _ h.2⟩
    · exact h

theorem cutMarks_wf (op : MemOp) (half : Bool) (st : Store) (h : st.wf = true) : (cutMarks op half st).wf = true := by
  have h1 := eraseBlocks_wf (markBlocks op) st h
  unfold cutMarks
  split
  · split
    · simp only [Store.wf, Bool.and_eq_true] at h1 ⊢
      exact ⟨h1.1, sparseWrite_wf _ _ _ h1.2⟩
    · exact h1
  · exact h1

theorem cutStore_wf (half : Bool) (m : Memory) (h : m.wf = true) : (cutStore half m).wf = true := by
  unfold cutStore
  split
  · split
    · exact cutMarks_wf _ _ _ h
    · exact h
  · exact h

/-! ### Reading blocks changes the statistics alone -/

theorem countFinding_store (f : Finding) (b : Nat) (m : Memory) : (countFinding f b m).store = m.store := by
  cases f <;> rfl

theorem readBlocks_store (bs : List Nat) (m : Memory) : (readBlocks bs m).2.store = m.store := by
  induction bs generalizing m with
  | nil => rfl
  | cons b bs ih =>
    unfold readBlocks
    dsimp only
    split
    · exact countFinding_store _ _ _
    · exact (ih _).trans (countFinding_store _ _ _)

theorem verifyBlocks_store (bs : List Nat) (m : Memory) : (verifyBlocks bs m).2.store = m.store := by
  induction bs generalizing m with
  | nil => rfl
  | cons b bs ih =>
    unfold verifyBlocks
    split
    · exact (ih _).trans (countFinding_store _ _ _)
    · exact countFinding_store _ _ _

theorem readTagged_store (tag : Nat) (rest : List Nat) (m : Memory) : (readTagged tag rest m).2.store = m.store := by
  unfold readTagged
  dsimp only
  split
  · exact readBlocks_store _ _
  · split
    · split <;> exact (readBlocks_store _ _).trans (readBlocks_store _ _)
    · exact readBlocks_store _ _

theorem readBlocks_wf (bs : List Nat) (m : Memory) (h : m.wf = true) : (readBlocks bs m).2.wf = true := by
  unfold Memory.wf
  rw [readBlocks_store]
  exact h

theorem markVerified_wf (errs : List BlockBits) (bs : List Nat) (ds : List (BitVec 64)) (m : Memory) (h : m.wf = true) :
    (markVerified errs bs ds m).2.wf = true := by
  induction bs generalizing ds m with
  | nil => exact h
  | cons b bs ih =>
    cases ds with
    | nil => exact h
    | cons d ds =>
      have hp : ∀ f, (countFinding f b { m with store := programBlock b d (sparseRead 0 errs b) m.store }).wf = true := by
        intro f
        unfold Memory.wf
        rw [countFinding_store]
        exact programBlock_wf _ _ _ _ h
      unfold markVerified
      dsimp only
      split
      · exact ih _ _ (hp _)
      · exact eraseBlock_wf _ _ (hp _)

theorem markTarget_wf (op : MemOp) (mark : MarkProgram) (data : List (BitVec 64)) (m : Memory) (h : m.wf = true) :
    (markTarget op mark data m).2.wf = true := by
  have whole : (markWhole op mark data m).2.wf = true := by
    refine readBlocks_wf _ _ ?_
    unfold Memory.wf
    dsimp only
    split
    · exact programBlocks_wf _ _ _ _ h
    · exact h
  unfold markTarget
  split
  · split
    · exact markVerified_wf _ _ _ _ h
    · exact readBlocks_wf _ _ h
  · exact whole

/-- A body that does not verify ends VERIFY_FAILED with the marking blocks erased and no other block changed. -/
theorem verifyAndMark_failed (op : MemOp) (mark : MarkProgram) (m : Memory)
    (h : (verifyBlocks (bodyProgram op m).1 m).1 = false) :
    (verifyAndMark op mark m).1 = .verifyFailed ∧
      (verifyAndMark op mark m).2.store = eraseBlocks (markBlocks op) m.store := by
  simp [verifyAndMark, h, verifyBlocks_store]

/-- The verify and the marking keep the canonical form. -/
theorem verifyAndMark_wf (op : MemOp) (mark : MarkProgram) (m : Memory) (h : m.wf = true) :
    (verifyAndMark op mark m).2.wf = true := by
  have hv : (verifyBlocks (bodyProgram op m).1 m).2.wf = true := by
    unfold Memory.wf
    rw [verifyBlocks_store]
    exact h
  unfold verifyAndMark
  dsimp only
  split
  · exact markTarget_wf _ _ _ _ hv
  · exact eraseBlocks_wf _ _ hv

/-- The reset memory is in canonical form. -/
theorem reset_memory_wf : State.reset.memory.wf = true := by decide

end Sys2Proof.Machine
end

