-- ==== Sys2Proof/Laws/Voices.lean ====
section
/-! SUPPORT. What the Voice Table's orders and the Note Assigner's operations can do: `PlayFrame` names the blocks and the
fields that every one of them leaves alone, and the four orders of R7, R11, R12 and R14 have their effect on the voice
records and the two order lists said once. -/

namespace Sys2Proof.Machine

/-- `t` differs from `s` at most in the Voice Table, the Output Refresh Sequencer and the Note Assigner's lists. -/
structure PlayFrame (s t : State) : Prop where
  powered : t.powered = s.powered
  resetLow : t.resetLow = s.resetLow
  params : t.params = s.params
  scanner : t.scanner = s.scanner
  matrix : t.matrix = s.matrix
  memory : t.memory = s.memory
  tune : t.tune = s.tune
  link : t.link = s.link
  pending : t.pending = s.pending
  setup : t.assigner.setup = s.assigner.setup
  bend : t.assigner.bend = s.assigner.bend
  pedalDown : t.assigner.pedalDown = s.assigner.pedalDown

theorem PlayFrame.refl (s : State) : PlayFrame s s := ⟨rfl, rfl, rfl, rfl, rfl, rfl, rfl, rfl, rfl, rfl, rfl, rfl⟩

theorem PlayFrame.trans {s t u : State} (h : PlayFrame s t) (k : PlayFrame t u) : PlayFrame s u :=
  ⟨k.powered.trans h.powered, k.resetLow.trans h.resetLow, k.params.trans h.params, k.scanner.trans h.scanner,
    k.matrix.trans h.matrix, k.memory.trans h.memory, k.tune.trans h.tune, k.link.trans h.link, k.pending.trans h.pending,
    k.setup.trans h.setup, k.bend.trans h.bend, k.pedalDown.trans h.pedalDown⟩

/-- An operation over a list of voices keeps the frame when each of its steps does. -/
theorem PlayFrame.foldl {α : Type} {f : State → α → State} (hf : ∀ s a, PlayFrame s (f s a)) (l : List α) (s : State) :
    PlayFrame s (l.foldl f s) := by
  induction l generalizing s with
  | nil => exact .refl s
  | cons a l ih => exact (hf s a).trans (ih _)

/-! ### Updates of one part -/

theorem frame_modVoice (v : Fin 8) (f : Voice → Voice) (s : State) : PlayFrame s (modVoice v f s) :=
  ⟨rfl, rfl, rfl, rfl, rfl, rfl, rfl, rfl, rfl, rfl, rfl, rfl⟩

theorem frame_table (t : VoiceTable) (s : State) : PlayFrame s { s with table := t } :=
  ⟨rfl, rfl, rfl, rfl, rfl, rfl, rfl, rfl, rfl, rfl, rfl, rfl⟩

theorem frame_leaveRelease (v : Fin 8) (s : State) : PlayFrame s (leaveRelease v s) := frame_table _ s

theorem frame_markStale (v : Fin 8) (s : State) : PlayFrame s (markStale v s) := by
  unfold markStale
  split
  · exact ⟨rfl, rfl, rfl, rfl, rfl, rfl, rfl, rfl, rfl, rfl, rfl, rfl⟩
  · exact .refl s

theorem frame_modEntry (key : Nat) (f : List (Fin 8) → List (Fin 8)) (s : State) : PlayFrame s (modEntry key f s) :=
  ⟨rfl, rfl, rfl, rfl, rfl, rfl, rfl, rfl, rfl, rfl, rfl, rfl⟩

theorem frame_removeEntry (key : Nat) (s : State) : PlayFrame s (removeEntry key s) :=
  ⟨rfl, rfl, rfl, rfl, rfl, rfl, rfl, rfl, rfl, rfl, rfl, rfl⟩

theorem frame_leaveWaiting (key : Nat) (s : State) : PlayFrame s (leaveWaiting key s) :=
  ⟨rfl, rfl, rfl, rfl, rfl, rfl, rfl, rfl, rfl, rfl, rfl, rfl⟩

theorem frame_joinWaiting (key : Nat) (s : State) : PlayFrame s (joinWaiting key s) := by
  unfold joinWaiting
  split
  · exact .refl s
  · exact ⟨rfl, rfl, rfl, rfl, rfl, rfl, rfl, rfl, rfl, rfl, rfl, rfl⟩

theorem frame_joinStack (v : Fin 8) (s : State) : PlayFrame s (joinStack v s) :=
  ⟨rfl, rfl, rfl, rfl, rfl, rfl, rfl, rfl, rfl, rfl, rfl, rfl⟩

theorem frame_setMonoKey (key : Option Nat) (s : State) : PlayFrame s (setMonoKey key s) :=
  ⟨rfl, rfl, rfl, rfl, rfl, rfl, rfl, rfl, rfl, rfl, rfl, rfl⟩

/-! ### The orders of the Voice Table -/

theorem frame_noteStart (v : Fin 8) (key vel pos : Nat) (jump : Bool) (s : State) :
    PlayFrame s (noteStart v key vel pos jump s) := by
  unfold noteStart
  split
  · exact ((frame_leaveRelease v s).trans (frame_modVoice v _ _)).trans ((frame_table _ _).trans (frame_markStale v _))
  · exact .refl s

theorem frame_legatoChange (v : Fin 8) (key : Nat) (jump : Bool) (s : State) : PlayFrame s (legatoChange v key jump s) :=
  frame_modVoice v _ s

theorem frame_toReleasing (v : Fin 8) (s : State) : PlayFrame s (toReleasing v s) :=
  (frame_modVoice v _ s).trans (frame_table _ _)

theorem frame_keyRelease (v : Fin 8) (s : State) : PlayFrame s (keyRelease v s) := by
  unfold keyRelease
  split
  · split
    · exact frame_modVoice v _ s
    · exact frame_toReleasing v s
  · exact .refl s

theorem frame_removeVoice (v : Fin 8) (dest : VoiceState) (s : State) : PlayFrame s (removeVoice v dest s) := by
  unfold removeVoice
  split
  · exact (frame_leaveRelease v s).trans (frame_modVoice v _ _)
  · exact .refl s

@[simp] theorem markStale_table (v : Fin 8) (s : State) : (markStale v s).table = s.table := by
  unfold markStale
  split <;> rfl

/-- A note start on a voice that may take one (R7): its record and its places in the two order lists; every other voice,
the rotate pointer and the Note Assigner stay. -/
theorem noteStart_spec {v : Fin 8} {s : State} (h : (s.voice v).state.playable = true) (key vel pos : Nat) (jump : Bool) :
    (noteStart v key vel pos jump s).voice v = startRecord key vel pos jump s.assigner.setup.gap (s.voice v) ∧
      (∀ w, w ≠ v → (noteStart v key vel pos jump s).voice w = s.voice w) ∧
      (noteStart v key vel pos jump s).table.startOrder = without v s.table.startOrder ++ [v] ∧
      (noteStart v key vel pos jump s).table.releaseOrder = without v s.table.releaseOrder ∧
      (noteStart v key vel pos jump s).table.rotate = s.table.rotate ∧
      (noteStart v key vel pos jump s).assigner = s.assigner := by
  have e : noteStart v key vel pos jump s =
      markStale v { modVoice v (startRecord key vel pos jump s.assigner.setup.gap) (leaveRelease v s) with
        table := { (modVoice v (startRecord key vel pos jump s.assigner.setup.gap) (leaveRelease v s)).table with
          startOrder := without v s.table.startOrder ++ [v] } } := by
    unfold noteStart
    rw [if_pos h]
    rfl
  rw [e]
  refine ⟨?_, ?_, by simp, by simp [leaveRelease], by simp [leaveRelease], ?_⟩
  · rw [voice_of_table (markStale_table v _)]
    exact modVoice_voice_self v _ (leaveRelease v s)
  · intro w hw
    rw [voice_of_table (markStale_table v _)]
    exact (modVoice_voice v w _ (leaveRelease v s)).trans (if_neg (Ne.symm hw))
  · unfold markStale
    split <;> rfl

/-- A note start is performed only on a voice that is FREE, SOUNDING, SUSTAINED or RELEASING (R7). -/
theorem noteStart_barred {v : Fin 8} {s : State} (h : (s.voice v).state.playable = false) (key vel pos : Nat) (jump : Bool) :
    noteStart v key vel pos jump s = s := by
  simp [noteStart, h]

/-- A key release (R12): a SOUNDING voice becomes SUSTAINED under the pedal and RELEASING without it; any other is left. -/
theorem keyRelease_spec (v : Fin 8) (s : State) :
    keyRelease v s =
      if (s.voice v).state = .sounding then
        if s.assigner.pedalDown = true then modVoice v (fun x => { x with state := .sustained }) s else toReleasing v s
      else s := rfl

/-- A voice that enters RELEASING (R12): its record, and its place at the end of the release order list. -/
theorem toReleasing_spec (v : Fin 8) (s : State) :
    (toReleasing v s).voice v =
        { s.voice v with state := .releasing, gate := dropGate (s.voice v).gate, release := releaseTime (s.param 8) } ∧
      (∀ w, w ≠ v → (toReleasing v s).voice w = s.voice w) ∧
      (toReleasing v s).table.releaseOrder = without v s.table.releaseOrder ++ [v] ∧
      (toReleasing v s).table.startOrder = s.table.startOrder ∧ (toReleasing v s).assigner = s.assigner ∧
      (toReleasing v s).refresh = s.refresh :=
  ⟨modVoice_voice_self v _ s, fun w hw => (modVoice_voice v w _ s).trans (if_neg (Ne.symm hw)), rfl, rfl, rfl, rfl⟩

/-- A voice that leaves play (R14, R15): its record, and no place left in the release order list. -/
theorem removeVoice_spec {v : Fin 8} {s : State} (h : (s.voice v).state.playable = true) (dest : VoiceState) :
    (removeVoice v dest s).voice v = leavePlay dest (s.voice v) ∧
      (∀ w, w ≠ v → (removeVoice v dest s).voice w = s.voice w) ∧
      (removeVoice v dest s).table.releaseOrder = without v s.table.releaseOrder ∧
      (removeVoice v dest s).table.startOrder = s.table.startOrder ∧ (removeVoice v dest s).assigner = s.assigner ∧
      (removeVoice v dest s).refresh = s.refresh := by
  have e : removeVoice v dest s = modVoice v (leavePlay dest) (leaveRelease v s) := if_pos h
  rw [e]
  exact ⟨modVoice_voice_self v _ (leaveRelease v s),
    fun w hw => (modVoice_voice v w _ (leaveRelease v s)).trans (if_neg (Ne.symm hw)), rfl, rfl, rfl, rfl⟩

/-! ### The lists, the chain and the play messages -/

theorem frame_leaveEntry (v : Fin 8) (key : Nat) (joins : Bool) (s : State) : PlayFrame s (leaveEntry v key joins s) := by
  unfold leaveEntry
  dsimp only
  split
  · split
    · exact (frame_modEntry key _ s).trans (frame_joinWaiting key _)
    · exact frame_modEntry key _ s
  · exact frame_modEntry key _ s

theorem frame_voiceLost (v : Fin 8) (x : Voice) (s : State) : PlayFrame s (voiceLost v x s) := by
  unfold voiceLost
  split
  · split
    · exact frame_leaveEntry v _ true s
    · exact ⟨rfl, rfl, rfl, rfl, rfl, rfl, rfl, rfl, rfl, rfl, rfl, rfl⟩
    · exact .refl s
  · exact .refl s

theorem frame_cutVoice (v : Fin 8) (dest : VoiceState) (s : State) : PlayFrame s (cutVoice v dest s) :=
  (frame_removeVoice v dest s).trans (frame_voiceLost v _ _)

theorem frame_settleChoice (v : Fin 8) (x : Voice) (s : State) : PlayFrame s (settleChoice v x s) := by
  unfold settleChoice
  split
  · split
    · exact frame_table _ s
    · exact .refl s
  · split
    · exact frame_leaveEntry v _ _ s
    · exact .refl s
  · exact .refl s

/-- The chain keeps the frame when what records a joined voice does. -/
theorem frame_chain {join : Fin 8 → State → State} (hj : ∀ v s, PlayFrame s (join v s)) (key vel : Nat) (held : List Nat)
    (keepTop : Bool) (n pos : Nat) (s : State) : PlayFrame s (chain key vel held keepTop join n pos s) := by
  induction n generalizing pos s with
  | zero => exact .refl s
  | succ n ih =>
    unfold chain
    split
    · exact .refl s
    · next s' h =>
      obtain ⟨v, -, rfl⟩ := Option.map_eq_some_iff.mp h
      exact ((frame_noteStart v _ _ _ _ s).trans ((frame_settleChoice v _ _).trans (hj v _))).trans (ih _ _)

theorem frame_joinEntry (key : Nat) (v : Fin 8) (s : State) : PlayFrame s (joinEntry key v s) := frame_modEntry key _ s

theorem frame_serveWaiting (v : Fin 8) (held : List Nat) (s : State) : PlayFrame s (serveWaiting v held s) := by
  unfold serveWaiting
  split
  · exact .refl s
  · exact (frame_noteStart v _ _ _ _ s).trans ((frame_leaveWaiting _ _).trans (frame_modEntry _ _ _))

theorem frame_voiceReturned (v : Fin 8) (s : State) : PlayFrame s (voiceReturned v s) := by
  unfold voiceReturned
  split
  · exact frame_serveWaiting v _ s
  · split
    · exact .refl s
    · split
      · exact (frame_noteStart v _ _ _ _ s).trans (frame_joinStack v _)
      · exact .refl s

theorem frame_releaseEnded (v : Fin 8) (s : State) : PlayFrame s (releaseEnded v s) := by
  unfold releaseEnded
  split
  · split
    · exact frame_serveWaiting v _ s
    · exact .refl s
  · exact .refl s

theorem frame_enterKey (key vel : Nat) (s : State) : PlayFrame s (enterKey key vel s) := by
  have adds : ∀ t, PlayFrame s t → PlayFrame s { leaveWaiting key t with assigner := { (leaveWaiting key t).assigner with
      keyList := (leaveWaiting key t).assigner.keyList ++ [{ key, velocity := vel, voices := [] }] } } := fun t h =>
    h.trans ⟨rfl, rfl, rfl, rfl, rfl, rfl, rfl, rfl, rfl, rfl, rfl, rfl⟩
  refine adds _ ?_
  split
  · exact frame_removeEntry key s
  · split
    · split
      · exact ⟨rfl, rfl, rfl, rfl, rfl, rfl, rfl, rfl, rfl, rfl, rfl, rfl⟩
      · exact .refl s
    · exact .refl s

theorem frame_restartOwn (key vel : Nat) (held : List Nat) (vs : List (Fin 8)) (pos : Nat) (s : State) :
    PlayFrame s (restartOwn key vel held vs pos s) := by
  induction vs generalizing pos s with
  | nil => exact .refl s
  | cons v vs ih => exact ((frame_noteStart v _ _ _ _ s).trans (frame_joinEntry key v _)).trans (ih _ _)

theorem frame_keyReleases (vs : List (Fin 8)) (s : State) : PlayFrame s (vs.foldl (fun s v => keyRelease v s) s) :=
  .foldl (fun s v => frame_keyRelease v s) vs s

/-- NOTE_ON in POLY leaves every other block and the voice setup alone (R24). -/
theorem frame_polyNoteOn (key vel : Nat) (s : State) : PlayFrame s (polyNoteOn key vel s) := by
  have waits : ∀ t, PlayFrame s t → PlayFrame s (match entryOf key t with
      | some e => if e.voices.isEmpty then joinWaiting key t else t
      | none => t) := by
    intro t h
    split
    · split
      · exact h.trans (frame_joinWaiting key _)
      · exact h
    · exact h
  exact waits _ (((frame_enterKey key vel s).trans (frame_keyReleases _ _)).trans
    ((frame_restartOwn key vel (heldKeys s) _ 0 _).trans (frame_chain (frame_joinEntry key) key vel (heldKeys s) _ _ _ _)))

/-- NOTE_OFF in POLY leaves every other block and the voice setup alone (R31, R32). -/
theorem frame_polyNoteOff (key : Nat) (s : State) : PlayFrame s (polyNoteOff key s) := by
  unfold polyNoteOff
  dsimp only
  have h := ((frame_removeEntry key s).trans (frame_leaveWaiting key _)).trans (frame_keyReleases (voicesSounding key
    (leaveWaiting key (removeEntry key s))) _)
  split
  · split
    · exact h.trans (frame_serveWaiting _ _ _)
    · exact h
  · exact h

theorem frame_formStack (key : Nat) (held : List Nat) (s : State) : PlayFrame s (formStack key held s) :=
  (frame_setMonoKey _ s).trans (frame_chain frame_joinStack _ _ _ _ _ _ _)

theorem frame_shedReserved (s : State) : PlayFrame s (shedReserved s) := by
  have h := frame_keyReleases (s.assigner.monoStack.filter fun v => (s.voice v).reserved) s
  exact h.trans ⟨rfl, rfl, rfl, rfl, rfl, rfl, rfl, rfl, rfl, rfl, rfl, rfl⟩

theorem frame_restartStack (key : Nat) (held : List Nat) (s : State) : PlayFrame s (restartStack key held s) :=
  .foldl (fun s v => frame_noteStart v _ _ _ _ s) _ s

theorem frame_moveStack (key : Nat) (held : List Nat) (s : State) : PlayFrame s (moveStack key held s) := by
  refine (frame_shedReserved s).trans (.trans ?_ (frame_setMonoKey _ _))
  split
  · exact frame_restartStack key held _
  · exact .foldl (fun s v => frame_legatoChange v _ _ s) _ _

/-- NOTE_ON in MONO leaves every other block and the voice setup alone (R35, R36). -/
theorem frame_monoNoteOn (key vel : Nat) (s : State) : PlayFrame s (monoNoteOn key vel s) := by
  unfold monoNoteOn
  dsimp only
  have h := frame_enterKey key vel s
  split
  · exact h
  · split
    · exact h.trans (frame_formStack _ _ _)
    · split
      · exact h.trans (frame_moveStack _ _ _)
      · split
        · exact h.trans ((frame_shedReserved _).trans (frame_restartStack _ _ _))
        · exact h

/-- NOTE_OFF in MONO leaves every other block and the voice setup alone (R35 to R37). -/
theorem frame_monoNoteOff (key : Nat) (s : State) : PlayFrame s (monoNoteOff key s) := by
  have h : PlayFrame s (if (entryOf key s).isSome = true then leaveWaiting key (removeEntry key s)
      else (voicesSounding key s).foldl (fun s v => keyRelease v s) s) := by
    split
    · exact (frame_removeEntry key s).trans (frame_leaveWaiting key _)
    · exact frame_keyReleases _ s
  unfold monoNoteOff
  dsimp only
  generalize (if (entryOf key s).isSome = true then leaveWaiting key (removeEntry key s)
    else (voicesSounding key s).foldl (fun s v => keyRelease v s) s) = s1 at h ⊢
  cases selectedKey s1 with
  | none =>
    dsimp only
    split
    · exact h.trans ((frame_keyReleases ((List.finRange 8).filter fun v => s1.assigner.monoStack.contains v) s1).trans
        ⟨rfl, rfl, rfl, rfl, rfl, rfl, rfl, rfl, rfl, rfl, rfl, rfl⟩)
    · exact h
  | some c =>
    dsimp only
    split
    · exact h
    · split
      · exact h.trans (frame_formStack _ _ _)
      · exact h.trans (frame_moveStack _ _ _)

/-- A key press leaves every other block and the voice setup alone. -/
theorem frame_pressKey (key vel : Nat) (s : State) : PlayFrame s (pressKey key vel s) := by
  unfold pressKey
  split
  · exact frame_polyNoteOn key vel s
  · exact frame_monoNoteOn key vel s

/-- A key release message leaves every other block and the voice setup alone. -/
theorem frame_releaseKey (key : Nat) (s : State) : PlayFrame s (releaseKey key s) := by
  unfold releaseKey
  split
  · exact frame_polyNoteOff key s
  · exact frame_monoNoteOff key s

theorem frame_releaseWhere (p : Voice → Bool) (s : State) : PlayFrame s (releaseWhere p s) :=
  .foldl (fun s v => frame_toReleasing v s) _ s

/-- A return order leaves every other block and the voice setup alone (R15). -/
theorem frame_returnVoice (v : Fin 8) (toOff : Bool) (s : State) : PlayFrame s (returnVoice v toOff s) := by
  unfold returnVoice
  split
  · split
    · exact frame_modVoice v _ s
    · exact (frame_modVoice v _ s).trans (frame_voiceReturned v _)
  · exact .refl s

/-- A release of all leaves every other block and the voice setup alone (R15). -/
theorem frame_releaseAll (s : State) : PlayFrame s (releaseAll s) :=
  (frame_table _ s).trans (.foldl (fun s v => frame_returnVoice v false s) _ _)

end Sys2Proof.Machine
end

