-- ==== Sys2Proof/Tests/Slice0.lean ====
section
/-! SUPPORT. Tests on fixed values, each from a worked sequence or a sentence of the manual that its comment names; then, for
every statement with hypotheses, states and operands that meet them (`test_meets_<statement>`). -/

namespace Sys2Proof.Tests

open Sys2Proof.Machine

-- The tests are evaluated one after another: as many at once would each wait for the kernel on a stack of its own.
set_option Elab.async false

/-- The part right after its start-up load over an empty store. -/
def ready : State := { State.reset with memory := { State.reset.memory with ready := true, op := none } }

/-- The state a command leaves. -/
def after (i : Instr) (s : State) : State :=
  match exec i s with
  | .next t => t
  | _ => s

/-- `ready` with another table of voices, by a change of one voice. -/
def withVoice (v : Fin 8) (f : Voice → Voice) (s : State) : State := modVoice v f s

/-- A voice that sounds a key. -/
def sounding (key velocity : Nat) (x : Voice) : Voice :=
  { x with state := .sounding, key := some key, lastKey := some key, velocity := velocity, glide := some (256 * key),
           glideTarget := some (256 * key), gate := .high, refreshedA := true, refreshedB := true }

def withOp (op : MemOp) (s : State) : State := { s with memory := { s.memory with op := some op } }

/-- An operation of origin LINK. -/
def linkOp (kind : OpKind) (target : Target) (phase : OpPhase) : MemOp :=
  { kind, target, origin := .link, phase, timeLeft := 0, setting := false, image := [] }

/-! ### Well-formedness: each check refuses an ill-formed term -/

theorem test_wf_tick : (Instr.tick [(1887, 1)]).wellFormed = true ∧ (Instr.tick [(1888, 1)]).wellFormed = false := by decide

theorem test_wf_program :
    (Instr.programComplete []).wellFormed = true ∧ (Instr.programComplete [(1888, 1)]).wellFormed = false := by decide

theorem test_wf_marks :
    (Instr.storeComplete { took := true, errors := [] }).wellFormed = true ∧
      (Instr.storeComplete { took := true, errors := [(1888, 1)] }).wellFormed = false ∧
      (Instr.patchWriteComplete { took := true, errors := [(1888, 1)] }).wellFormed = false ∧
      (Instr.protectComplete { took := true, errors := [(1888, 1)] }).wellFormed = false ∧
      (Instr.tuningSaveComplete { took := true, errors := [(1888, 1)] }).wellFormed = false ∧
      (Instr.setupSaveComplete { took := true, errors := [(1888, 1)] }).wellFormed = false := by decide

theorem test_wf_clocks :
    (Instr.countingTimeout 0 16777215).wellFormed = true ∧ (Instr.countingTimeout 0 16777216).wellFormed = false ∧
      (Instr.tapEdge 0 .midRising 16777215).wellFormed = true ∧ (Instr.tapEdge 0 .midRising 16777216).wellFormed = false := by
  decide

theorem test_wf_badKind : (Instr.badKind 0x77).wellFormed = true ∧ (Instr.badKind 0x28).wellFormed = false := by decide

/-- No row of the table has bits, so no word spells a command. -/
theorem test_decode_none : decodeTableWord 8 0x10 = none := rfl

/-! ### Reset -/

/-- The state after reset stands at the start of slot 0: starting that slot changes nothing (R63, R75). -/
theorem test_reset_slot_started : (startSlot State.reset).refresh.dac = State.reset.refresh.dac := by decide

/-- R66, R67: a slot begins in LOAD and goes on to SETTLE, here in the first step that finds no command; from then on the part idles. -/
theorem test_idle :
    let t := { State.reset with refresh := { State.reset.refresh with phase := .settle } }
    State.reset.refresh.phase = .load ∧ step State.reset = .next t ∧ step t = .next t := ⟨rfl, rfl, rfl⟩

/-! ### The control link (R172 to R184) -/

/-- R184: the CRC of the nine ASCII bytes of 123456789 is 0xF4. -/
theorem test_crc_check_value : crcOf [0x31, 0x32, 0x33, 0x34, 0x35, 0x36, 0x37, 0x38, 0x39] = 0xF4 := by decide +kernel

/-- R184: a LINK_STATS frame has no body, and its CRC is that of the bytes 0x00 and 0x58. -/
theorem test_frame_link_stats : frameBytes 0x58 [] = [0xC5, 0x00, 0x58, crcOf [0x00, 0x58]] := by decide +kernel

/-- Section 10.9: a CRC byte that does not match discards the frame and sets the CRC error flag alone. -/
theorem test_corrupted_frame :
    let s := { ready with link := { ready.link with
      rx := { state := .check, length := 3, kind := 0x28, body := [4, 9, 7], crc := 0x55 } } }
    let t := after (.receiveByte 0x54) s
    t.link.rx.state = .idle ∧ t.link.discarded = 1 ∧ t.link.valid = 0 ∧ t.link.flags = { LinkFlags.clear with crcError := true } := by
  decide

/-- Section 10.9: a LINK_STATS that is the second valid frame after one discarded frame is answered 2, 1 and the CRC flag. -/
theorem test_link_stats_snapshot :
    let s := { ready with link := { ready.link with
      valid := 1, discarded := 1, flags := { LinkFlags.clear with crcError := true } } }
    let t := after .linkStats s
    t.link.tx = some (frameBytes 0xD8 [0x00, 0x02, 0x00, 0x01, 0x01]) ∧ t.link.valid = 0 ∧ t.link.discarded = 0 := by decide +kernel

/-- R172: a byte other than START in IDLE is disregarded; START begins a frame. -/
theorem test_start_byte :
    (after (.receiveByte 0xC4) ready).link.rx.state = .idle ∧ (after (.receiveByte 0xC5) ready).link.rx.state = .length := by
  decide

/-- R173: a framing error outside a frame sets its flag, counts nothing and begins HUNT, which ends without a flag. -/
theorem test_framing_error_idle :
    let t := after .framingError ready
    t.link.rx.state = .hunt ∧ t.link.discarded = 0 ∧ t.link.flags.byteError = true ∧ (after .huntEnd t).link.rx.state = .idle := by
  decide

/-- R175: a kind that names nothing is answered BAD_KIND with the kind's reply bit set. -/
theorem test_bad_kind : (after (.badKind 0x77) ready).link.tx = some (frameBytes 0xF7 [0x04]) := by decide +kernel

/-! ### Voices and notes: the chord of section 2.10 -/

/-- Event 1: NOTE_ON 60 takes voice 0, the pointer becomes 1 and voice 0 stands newest in the start order. -/
theorem test_chord_event1 :
    let t := after (.noteOn 60 100) ready
    (t.voice 0).sounds 60 = true ∧ (t.voice 0).glide = some 15360 ∧ (t.voice 0).gate = .armed ∧ t.table.rotate = 1 ∧
      t.table.startOrder = [1, 2, 3, 4, 5, 6, 7, 0] := by decide

/-- The part after event 4 of section 2.10: S 1, ROTATE, OLDEST, returning on, parameter 8 at 100, voices 4 to 7 OFF. -/
def chord : State :=
  let off := fun x : Voice => { x with state := .off, enabled := false }
  let voices : Vector Voice 8 := tab fun v =>
    match v.val with
    | 0 => sounding 60 100 Voice.initial
    | 1 => sounding 64 90 Voice.initial
    | 2 => sounding 67 80 Voice.initial
    | 3 => sounding 72 110 Voice.initial
    | _ => off Voice.initial
  { ready with
    table := { voices, startOrder := [4, 5, 6, 7, 0, 1, 2, 3], releaseOrder := [], rotate := 4 }
    assigner := { ready.assigner with
      setup := { VoiceSetup.initial with returning := true }
      keyList := [{ key := 60, velocity := 100, voices := [0] }, { key := 64, velocity := 90, voices := [1] },
        { key := 67, velocity := 80, voices := [2] }, { key := 72, velocity := 110, voices := [3] }] }
    params := { ready.params with records := ready.params.records.set 8 { value := 100, target := 100, source := .link, morph := none } } }

/-- Event 5: NOTE_ON 76 steals voice 0, whose gate runs the gap, and key 60 joins the waiting list. -/
theorem test_chord_event5 :
    let t := after (.noteOn 76 70) chord
    (t.voice 0).sounds 76 = true ∧ (t.voice 0).gate = .gap ∧ (t.voice 0).gap = 1 ∧ t.assigner.waiting = [60] ∧
      t.table.startOrder = [4, 5, 6, 7, 1, 2, 3, 0] ∧ t.table.rotate = 4 := by decide

/-- The part after event 5. -/
def chordFive : State :=
  let s := withVoice 0 (sounding 76 70) chord
  { s with
    table := { s.table with startOrder := [4, 5, 6, 7, 1, 2, 3, 0] }
    assigner := { s.assigner with
      waiting := [60]
      keyList := [{ key := 60, velocity := 100, voices := [] }, { key := 64, velocity := 90, voices := [1] },
        { key := 67, velocity := 80, voices := [2] }, { key := 72, velocity := 110, voices := [3] },
        { key := 76, velocity := 70, voices := [0] }] } }

/-- Event 6: NOTE_OFF 64 gives voice 1 to the waiting key 60 at once, with the velocity of its entry. -/
theorem test_chord_event6 :
    let t := after (.noteOff 64 0) chordFive
    (t.voice 1).sounds 60 = true ∧ (t.voice 1).velocity = 100 ∧ (t.voice 1).release = 0 ∧ (t.voice 1).gate = .armed ∧
      t.table.releaseOrder = [] ∧ t.table.startOrder = [4, 5, 6, 7, 2, 3, 0, 1] ∧ t.assigner.waiting = [] := by decide

/-- Event 7, with no key waiting: NOTE_OFF 72 sends voice 3 to RELEASING with 5 + 2 × 100 ms to run. -/
theorem test_chord_event7 :
    let t := after (.noteOff 72 0) chord
    (t.voice 3).state = .releasing ∧ (t.voice 3).release = 205 ∧ (t.voice 3).gate = .low ∧ t.table.releaseOrder = [3] := by
  decide

/-- Section 2.11: in MONO with LOW priority and S 2, NOTE_ON 48 forms the stack from voices 0 and 1 and the pointer becomes 2. -/
theorem test_mono_stack :
    let s := { ready with assigner := { ready.assigner with
      setup := { VoiceSetup.initial with mode := .mono, stack := 2, priority := .low, retrigger := false, glide := .legato } } }
    let t := after (.noteOn 48 100) s
    t.assigner.monoKey = some 48 ∧ t.assigner.monoStack = [0, 1] ∧ (t.voice 1).stackPos = 1 ∧ t.table.rotate = 2 := by decide

/-- R23: a velocity above 127 is taken as 127, and a key above 127 is refused BAD_ARG. -/
theorem test_note_on_ranges :
    ((after (.noteOn 60 200) ready).voice 0).velocity = 127 ∧
      (after (.noteOn 128 1) ready).link.tx = some (frameBytes 0x90 [0x03]) := by decide +kernel

/-- R39: a bend of 16384 is stored as 8191. -/
theorem test_bend_clamped : (after (.bend 0x4000) ready).assigner.bend = 8191 := by decide

/-- R38: PEDAL up sends a SUSTAINED voice to RELEASING. -/
theorem test_pedal_up :
    let s := withVoice 2 (fun x => { sounding 60 100 x with state := .sustained })
      { ready with assigner := { ready.assigner with pedalDown := true } }
    ((after (.pedal 0) s).voice 2).state = .releasing ∧ ((after (.pedal 1) s).voice 2).state = .sustained := by decide

/-- R40: ALL_OFF with cut frees a sounding voice at once; without, it releases it. -/
theorem test_all_off :
    ((after (.allOff 1) chord).voice 0).state = .free ∧ ((after (.allOff 0) chord).voice 0).state = .releasing := by decide

/-- R16: VOICE_ENABLE off makes a voice OFF and clears its enable flag. -/
theorem test_voice_enable :
    ((after (.voiceEnable 0x02 0) chord).voice 1).state = .off ∧ ((after (.voiceEnable 0x10 1) chord).voice 4).state = .free := by
  decide

/-- R17 and section 11.4: the reply of GET_VOICE for a voice that has never played. -/
theorem test_get_voice :
    (after (.getVoice 2) ready).link.tx =
      some (frameBytes 0xA1 [0x00, 0x01, 0x02, 0xFF, 0xFF, 0x7F, 0x00, 0xFF, 0xFF, 0xFF, 0xFF, 0x00, 0x00, 0x00, 0x00, 0x00, 0x02, 0xFF]) := by
  decide +kernel

/-! ### The engine: the worked cases of section 3.6 -/

/-- The tuning entries of section 3.6. -/
def workedEntries (k : Fin 8) : Nat := (#v[10950, 16420, 21880, 27310, 32790, 38260, 43700, 49180] : Vector Nat 8)[k]

/-- Section 3.6.1: pitch 15616 gives code 27767. -/
theorem test_map_centre : mapCode workedEntries 15616 = 27767 := by decide

/-- Section 3.6.2: pitch 3072 gives code 5480. -/
theorem test_map_below : mapCode workedEntries 3072 = 5480 := by decide

/-- Section 3.6.3: the segment of pitch 32767 is the last one. -/
theorem test_map_top : segmentOf 32767 = 6 ∧ mapCode workedEntries 32767 = 43700 + (5480 * 8191 + 1536) / 3072 := by decide

/-- R59: the lowest level, at velocity 1 and parameter 7 at 4095, is 531. -/
theorem test_lowest_level :
    levelCode (modParam 7 (fun r => { r with value := 4095 }) (withVoice 0 (fun x => { x with velocity := 1 }) ready)) 0 = 531 := by
  decide

/-- R67: HSTB_RISE connects cell 0 to the DAC; R63: its code is that of key 60 on the nominal map. -/
theorem test_hstb : (after .hstbRise ready).refresh.cells[0] = 27305 ∧ (after .hstbRise ready).strobe = true := by decide

/-- R67: SLOT_COMPLETION goes on to slot 1, and R70: PITCH_A(0) is marked refreshed. -/
theorem test_slot_completion :
    (after .slotCompletion ready).refresh.slot = 1 ∧ ((after .slotCompletion ready).voice 0).refreshedA = true := by decide

/-! ### Timers -/

/-- R6: a tick lowers a release hold, a gap and a pulse, and leaves a timer at 0 there. -/
theorem test_tick_timers :
    let s := withVoice 0 (fun x => { x with release := 5, gap := 1, trigger := 0 }) ready
    ((after (.tick []) s).voice 0).release = 4 ∧ ((after (.tick []) s).voice 0).gap = 0 ∧
      ((after (.tick []) s).voice 0).trigger = 0 := by decide

/-- Section 5.9, tick 1: parameter 4 morphs from 4095 toward 1000 over 4 ticks and stands at 3322. -/
theorem test_tick_morph :
    let s := modParam 4 (fun _ => { value := 4095, target := 1000, source := .recall, morph := some { start := 4095, elapsed := 0 } })
      { ready with params := { ready.params with morphLength := some 4 } }
    (after (.tick []) s).params.records[(4 : Fin 64)].value = 3322 := by decide

/-- Section 5.9, tick 5: parameters 3 and 8 arrive, and the morph length becomes absent; MORPH_END takes the same step for one of
them, and the length stays for the other. -/
theorem test_morph_arrives :
    let morphing := fun start target value : Nat => fun _ : Param =>
      { value, target, source := .recall, morph := some { start, elapsed := 1 } }
    let s := modParam 3 (morphing 1750 500 1125) (modParam 8 (morphing 100 3000 1550)
      { ready with params := { ready.params with morphLength := some 2 } })
    let p3 : Param := { value := 500, target := 500, source := .recall, morph := none }
    let p8 : Param := { value := 3000, target := 3000, source := .recall, morph := none }
    let t := (after (.tick []) s).params
    let u := (after (.morphEnd 3) s).params
    t.records[(3 : Fin 64)] = p3 ∧ t.records[(8 : Fin 64)] = p8 ∧ t.morphLength = none ∧
      u.records[(3 : Fin 64)] = p3 ∧ u.records[(8 : Fin 64)].morph ≠ none ∧ u.morphLength = some 2 := by decide

/-- R61: the tick at which parameter 3 arrives at 4095 still glides at the rate of the 0 it held before. -/
theorem test_tick_glide_reads_old_rate :
    let s := modParam 3 (fun _ => { value := 0, target := 4095, source := .recall, morph := some { start := 0, elapsed := 0 } })
      (withVoice 0 (fun x => { x with glide := some 0, glideTarget := some 32512 })
        { ready with params := { ready.params with morphLength := some 1 } })
    ((after (.tick []) s).voice 0).glide = some 32512 ∧ (after (.tick []) s).param 3 = 4095 := by decide

/-- R9: at a gap expiry a SOUNDING voice with both pitches refreshed raises its gate; another waits ARMED. -/
theorem test_gap_expiry :
    ((after (.gapExpiry 0) (withVoice 0 (fun x => { x with gate := .gap }) chord)).voice 0).gate = .high ∧
      ((after (.gapExpiry 0) (withVoice 0 (fun x => { x with gate := .gap, refreshedA := false }) chord)).voice 0).gate = .armed := by
  decide

/-- R10: a trigger pulse that has run out drops the TRIG pin. -/
theorem test_trigger_expiry :
    ((after (.triggerExpiry 0) (withVoice 0 (fun x => { x with trigPin := true }) ready)).voice 0).trigPin = false := by decide

/-- R13: a release hold that has run out frees the voice. -/
theorem test_release_end :
    let s := withVoice 1 (fun x => { x with state := .releasing, key := some 64, release := 0 })
      { chord with table := { chord.table with releaseOrder := [1] } }
    ((after (.releaseEnd 1) s).voice 1).state = .free ∧ (after (.releaseEnd 1) s).table.releaseOrder = [] := by decide

/-- R122: the blink timer's phase change. -/
theorem test_blink :
    let s := { ready with matrix := { ready.matrix with blinkRemaining := 0, offTime := 300 } }
    (after .blinkPhaseChange s).matrix.blinkOn = false ∧ (after .blinkPhaseChange s).matrix.blinkRemaining = 300 := by decide

/-! ### Parameters, knobs and the panel -/

/-- R81: a value above 4095 is clamped, and the source is LINK. -/
theorem test_set_param :
    let t := after (.setParam 5 5000) ready
    t.params.records[(5 : Fin 64)].value = 4095 ∧ t.params.records[(5 : Fin 64)].source = .link ∧ t.params.edited = true := by decide

/-- Section 10.9: SET_PARAM (4, 1800) with knob 4 at reported value 3310 leaves knob 4 in WAIT_FALL. -/
theorem test_set_param_pickup :
    let s := modKnob 4 (fun k => { k with seeded := true, reported := 3310, filtered := 3310 }) ready
    (after (.setParam 4 1800) s).scanner.knobs[(4 : Fin 48)].pickup = .waitFall := by decide

/-- Section 6.8: knob 9 waits with WAIT_RISE at 1990 while parameter 9 stands at 2000 and the deadband is 6. -/
theorem test_pickup_locks :
    locksAt .waitRise 6 1990 2000 = false ∧ locksAt .waitRise 6 2003 2000 = true ∧ locksAt .waitFall 6 3300 3322 = true := by decide

/-- R95: the first conversion of a knob seeds it without a movement. -/
theorem test_knob_seeds :
    let s := { ready with scanner := { ready.scanner with pos := .converting 3 0 } }
    let k := (after (.knobConversionComplete 1000) s).scanner.knobs[(3 : Fin 48)]
    k.seeded = true ∧ k.reported = 1000 ∧ (after (.knobConversionComplete 1000) s).link.tx = none := by decide

/-- R93: after the settling of step 0 bank 0 is converted; after the last bank the next step settles. -/
theorem test_panel_frame :
    (after .knobSettleEnd ready).scanner.pos = .converting 0 0 ∧
      (after (.knobConversionComplete 0) { ready with scanner := { ready.scanner with pos := .converting 7 5 } }).scanner.pos =
        .supply := by decide

/-- R106: the supply conversion is stored as it stands and a frame starts. -/
theorem test_supply :
    let t := after (.supplyConversionComplete 2900) { ready with scanner := { ready.scanner with pos := .supply } }
    t.scanner.supply = 2900 ∧ t.scanner.pos = .settling 0 := by decide

/-- R98: a knob mapped to parameter 7 takes it from knob 7. -/
theorem test_map_knob :
    let t := after (.mapKnob 40 7) ready
    t.scanner.knobs[(40 : Fin 48)].mapping = some 7 ∧ t.scanner.knobs[(7 : Fin 48)].mapping = none := by decide

/-- R104: an offset of -128 is clamped to -64, bits 6 and 7 of the bank set are ignored. -/
theorem test_knob_scan :
    (after (.setKnobScan 0xC1 0x80 300) ready).scanner.requested = { banks := 1, offset := -64, deadband := 255 } := by decide

/-- R111, R112: with depth 2 a switch that is down at a second full scan is accepted, and its report is sent. -/
theorem test_debounce :
    debounceSwitch 2 { Switch.initial with sensed := true } =
        { Switch.initial with sensed := true, candidate := true, count := 1 } ∧
      debounceSwitch 2 { Switch.initial with sensed := true, candidate := true, count := 1 } =
        { Switch.initial with sensed := true, stable := true, candidate := true } := by decide

/-- R111: the columns of row 1 are the switches 8 to 15, and the row position advances. -/
theorem test_row_step :
    let t := after (.rowStepEnd 0x04) { ready with matrix := { ready.matrix with row := 1 } }
    t.matrix.row = 2 ∧ t.rowDrives = 0x04 ∧ ({ t with resetLow := true } : State).rowDrives = 0 ∧ t.matrix.switches[(10 : Fin 64)].sensed = true ∧ t.matrix.switches[(2 : Fin 64)].sensed = false := by decide

/-- R119, R120, R123: a RECALL action needs a slot of 0..127; PEDAL is no group action; a lamp's binding. -/
theorem test_panel_requests :
    (after (.setSwitch 9 1 1 127) ready).matrix.switches[(9 : Fin 64)].action = .recall 127 ∧
      (after (.setSwitch 9 1 1 128) ready).link.tx = some (frameBytes 0xB8 [0x03]) ∧
      (after (.setGroup 0 0 0 4 0) ready).link.tx = some (frameBytes 0xBA [0x03]) ∧
      (after (.setLampBinding 12 2) ready).matrix.lamps[(12 : Fin 64)].binding = .tuning := by decide +kernel

/-- R122: a blink time below 50 ms is taken as 50 and one above 2000 as 2000. -/
theorem test_set_blink :
    (after (.setBlink 10 3000) ready).matrix.onTime = 50 ∧ (after (.setBlink 10 3000) ready).matrix.offTime = 2000 := by decide

/-! ### Patch memory -/

/-- R134: a RECALL is answered ACCEPTED and its read is in flight; a slot above 127 is refused. -/
theorem test_recall :
    (after (.recall 127) ready).link.tx = some (frameBytes 0xC0 [0x01]) ∧ (after (.recall 127) ready).busy = true ∧
      (after (.recall 128) ready).link.tx = some (frameBytes 0xC0 [0x03]) := by decide +kernel

/-- R129: an erased slot reads EMPTY, and so a recall of it ends EMPTY. -/
theorem test_recall_empty :
    (after .recallComplete (withOp (linkOp .recall (.slot 3) .read) ready)).link.tx = some (frameBytes 0x61 [3, 0x08, 0]) := by
  decide +kernel

/-- R132: with the supply below 2900 a setup save ends SUPPLY_LOW at its start. -/
theorem test_save_setup_supply :
    (after .saveSetup { ready with scanner := { ready.scanner with supply := 2899 } }).link.reports =
      [.storeDone .setupArea .supplyLow] := by decide

/-- R138: a patch information read of an erased slot. -/
theorem test_patch_info_empty :
    (after .patchInfoComplete (withOp (linkOp .patchInfo (.slot 5) .read) ready)).link.tx = some (frameBytes 0x63 [5, 1, 0x08]) := by
  decide +kernel

/-- R140: a step recall that meets an erased slot goes on to the next slot of its direction, wrapping at 127. -/
theorem test_tag_examine :
    let s := withOp (linkOp .stepRecall (.slot 127) (.search true 127 0)) ready
    (after .tagExamineComplete s).memory.op.map MemOp.target = some (.slot 0) := by decide

/-- R128: one bit in error is corrected and counted, two are reported. -/
theorem test_check_block :
    (checkBlock { cells := [(0, 0x12)], errors := [(0, 4)] } 0).1 = .one ∧
      (checkBlock { cells := [(0, 0x12)], errors := [(0, 5)] } 0).1 = .two := by decide

/-- R127: an erased byte reads 0xFF, and writing 0xFF removes the cell. -/
theorem test_store_cells :
    (programBlock 2 0xFFFFFFFFFFFFFF07 0 { cells := [], errors := [] }).cells = [(16, 0x07)] ∧
      (eraseBlock 2 { cells := [(16, 0x07)], errors := [] }).cells = [] := by decide

/-- R141: a status block that takes one bit wrongly, be it a check bit, fails its verify and stands erased; R132: a slot's tag block
with one correctable bit still reads VALID. -/
theorem test_status_blocks_verified :
    let statuses : BitVec 64 := 0x1010101010101010
    let taking := fun bit : BitVec 72 => markVerified [(1825, bit)] [1824, 1825] [statuses, statuses] ready.memory
    ((taking 1).1 = false ∧ storeByte (taking 1).2.store 1824 0 = 0x10 ∧ storeByte (taking 1).2.store 1825 0 = 0xFF) ∧
      (taking 0x800000000000000000).1 = false ∧
      (markVerified [] [1824, 1825] [statuses, statuses] ready.memory).1 = true ∧
      (markWhole (linkOp .store (.slot 0) .verify) { took := true, errors := [(0, 1)] } [0x35] ready.memory).1 = true := by
  decide +kernel

/-- R145: the slot load over an erased store makes the part READY and queues READY with the three outcomes. -/
theorem test_slot_load :
    let s := withOp { MemOp.startUp with phase := .loadSlot .empty .empty } State.reset
    (after .slotLoadComplete s).memory.ready = true ∧ (after .slotLoadComplete s).link.tx = some (frameBytes 0x60 [2, 2, 2]) := by
  decide +kernel

/-! ### Tuning: the point of section 9.10 -/

/-- Channel 2 of section 9.10 in its confirming trial: point 3 of oscillator 6, one edge to go. -/
def tuning (index : TrialIndex) (c : Nat) : State :=
  let job : Job :=
    { origin := .link, scope := 0xFF, depth := .fine, force := false, save := true, disableFailed := false, settle := 4,
      hysteresis := true, polarity := .rising, rounds := [[0, 1], [2, 3], [4, 5], [6, 7]], round := 1,
      marks := [(2, .taken), (3, .taken)], wait := 0, saving := false, okCount := 0, failedCount := 0 }
  let channel : Channel :=
    { phase := .counting, osc := some 6, point := 3, low := 27182, trials := 8, base := 27310, index, c, code := c + 1, cycle := 1,
      period := 0, timer := 100 }
  { ready with tune := { ready.tune with job := some job, channels := ready.tune.channels.set 2 channel } }

/-- Trial 1: 307,134 clocks are FLAT, so C becomes 27310 and the next code is 27374. -/
theorem test_trial_flat :
    let t := after (.tapEdge 6 .upperAfterLower 307134) (tuning (.search 7) 27182)
    t.tune.channels[(2 : Fin 4)].c = 27310 ∧ t.refresh.overrides[(6 : Fin 16)] = { code := 27374, valid := true, loadPending := true } := by
  decide

/-- The confirming trial: the point ends OK with entry 27345 and residual -10, and point 4 begins. -/
theorem test_point_ends :
    let t := after (.tapEdge 6 .upperAfterLower 305771) (tuning .confirm 27344)
    t.tune.table[(6 : Fin 16)][(3 : Fin 8)] = { entry := 27345, status := .ok, residual := -10 } ∧
      t.tune.channels[(2 : Fin 4)].point = 4 ∧ t.tune.job.map Job.okCount = some 1 := by decide

/-- R151: TUNE_START with all voices FREE takes voices 0 and 1 in its first round. -/
theorem test_tune_start :
    let t := after (.tuneStart 0xFF 0 0 1 0) ready
    (t.voice 0).state = .tuning ∧ (t.voice 1).state = .tuning ∧ (t.voice 2).state = .free ∧
      t.link.tx = some (frameBytes 0xD0 [0x01]) := by decide +kernel

/-- R149: a reference of 199,999 is refused and 200,000 taken. -/
theorem test_set_reference :
    (after (.setReference 199999) ready).tune.reference = 305781 ∧ (after (.setReference 200000) ready).tune.reference = 200000 := by
  decide

/-- R166: without a job TUNE_ABORT is answered NOTHING_TO_DO. -/
theorem test_tune_abort : (after .tuneAbort ready).link.tx = some (frameBytes 0xD1 [0x0D]) := by decide +kernel

/-! ### States and operands that meet the hypotheses of the statements -/

/-- A chord is held and a NOTE_ON waits in the queue. -/
def queued : State := { chord with pending := [.noteOn 76 70] }

/-- The part still loads. -/
def loading : State := State.reset

/-- Eight replies wait behind a frame being sent. -/
def overrun : State :=
  { ready with link := { ready.link with replies := List.replicate 8 { kind := 0xD8, body := [0] }, tx := some [] } }

/-- A receiver in one of its states, a frame of kind 0x28 with three body bytes in assembly. -/
def receiving (st : RxState) (body : List Byte) : State :=
  { ready with link := { ready.link with rx := { state := st, length := 3, kind := 0x28, body, crc := 0x55 } } }

theorem test_meets_StepRunsFront :
    queued.pending = .noteOn 76 70 :: [] ∧ (State.reset.pending = [] ∧ State.reset.running = true ∧ State.reset.refresh.phase = .load) ∧
      (after .hstbRise State.reset).pending = [] ∧ (after .hstbRise State.reset).refresh.phase ≠ .load := by decide

theorem test_meets_PowerAndReset : ({ ready with resetLow := true } : State).resetLow = true := rfl

/-- A slot's operation, both saves, and a part at the load of each area over the store that a cut has left. -/
theorem test_meets_CutSlotReadsEmpty :
    let s := fun (op : MemOp) => withOp op ready
    let u := fun (ph : OpPhase) (st : Store) =>
      { ready with memory := { ready.memory with op := some { MemOp.startUp with phase := ph }, store := st } }
    (∀ kind target ph, StoreCanonical (s (linkOp kind target ph)) ∧
        (s (linkOp kind target ph)).memory.op = some (linkOp kind target ph) ∧
        (linkOp kind target ph).phase = ph ∧ (linkOp kind target ph).target = target) ∧
      ∀ ph st, (u ph st).running = true ∧ (u ph st).memory.store = st ∧ (u ph st).memory.op = some { MemOp.startUp with phase := ph } :=
  ⟨fun _ _ _ => ⟨rfl, rfl, rfl, rfl⟩, fun _ _ => ⟨rfl, rfl, rfl⟩⟩

/-- R133: an area cut short in its erase reads EMPTY at the start-up load, CORRUPT where a marking block is half-programmed. -/
theorem test_cut_area :
    let load := fun (half : Bool) =>
      ((after .setupLoadComplete (after (.resetRelease) (after (.resetAssert half) (withOp (linkOp .setupSave .setupArea .erase) ready)))).memory.op.map
        MemOp.phase)
    load false = some (.loadTuning .empty) ∧ load true = some (.loadTuning .corrupt) := by
  decide +kernel

/-- The state `queued` meets the invariants that a step keeps, and it has a next state. -/
theorem test_meets_KeptByStep :
    StoreCanonical queued ∧ VoicesConsistent queued ∧ StartOrderWhole queued ∧ ReleaseOrderExact queued ∧
      KeyListsConsistent queued ∧ MappingUnique queued ∧ QueuesBounded queued ∧ LineServed queued ∧ SettingsInRange queued ∧
      OperationFits queued ∧ Completes (step queued) := by
  refine ⟨by decide, by decide, by decide, by decide, by decide, by decide +kernel, by decide, by decide, by decide,
    fun _ h => (by cases h), _, rfl⟩

theorem test_meets_ValuesStayInRange :
    ParamsInRange queued ∧ MorphsTimed queued ∧ CodesInRange queued ∧ Completes (step queued) := by
  have h : ∀ p : Fin 64, let r := queued.params.records[p]; r.value ≤ 4095 ∧ r.target ≤ 4095 ∧ r.morph = none ∧ r.value = r.target := by
    decide +kernel
  have idle : ∀ c : Fin 4, queued.tune.channels[c].osc = none := by decide
  refine ⟨⟨fun p => ?_, by decide +kernel⟩, ⟨fun p m hm => ?_, fun hl => absurd rfl hl⟩,
    ⟨by decide +kernel, by decide +kernel, fun c hc => absurd (idle c) hc, by decide, by decide +kernel⟩, _, rfl⟩
  · obtain ⟨a, b, c, d⟩ := h p
    exact ⟨a, b, by simp only [c]; exact d⟩
  · rw [(h p).2.2.1] at hm; cases hm

theorem test_meets_FrameRunsItsCommand :
    frameParts (.noteOn 60 100) = some (0x10, [60, 100]) ∧ frameParts .linkStats = some (0x58, []) ∧
      (frameParts (.writePatch 127 0)).map (fun f => f.2.length) = some 113 ∧ ready.running = true ∧
      ready.link.rx = Receiver.idle := by
  refine ⟨rfl, rfl, by decide +kernel, rfl, rfl⟩

theorem test_meets_ReceiverTakesByte :
    (receiving .idle []).link.rx.state = .idle ∧ ((receiving .length []).link.rx.state = .length ∧ (124 : Byte).toNat ≤ 124) ∧
      124 < (125 : Byte).toNat ∧ (receiving .kind []).link.rx.state = .kind ∧ (receiving .body [1, 2]).link.rx.state = .body ∧
      ((receiving .check [1, 2, 3]).link.rx.state = .check ∧ (0x54 : Byte) ≠ (receiving .check [1, 2, 3]).link.rx.crc) ∧
      ((0x55 : Byte) = (receiving .check [1, 2]).link.rx.crc ∧ bodyLength (receiving .check [1, 2]).link.rx.kind = some 3 ∧
        (receiving .check [1, 2]).link.rx.body.length ≠ 3 ∧ (receiving .check [1, 2]).link.replies.length < 8) ∧
      (receiving .hunt []).link.rx.state = .hunt ∧ ∀ st body, (receiving st body).running = true := by
  refine ⟨rfl, ⟨rfl, by decide⟩, by decide, rfl, rfl, ⟨rfl, by decide⟩, by decide, rfl, fun _ _ => rfl⟩

theorem test_meets_LineFaults :
    ∀ st : RxState, (receiving st []).running = true ∧ (receiving st []).link.rx.state = st := fun _ => ⟨rfl, rfl⟩

theorem test_meets_FrameEndSendsNext :
    (overrun.running = true ∧ overrun.link.tx = some [] ∧ ∃ r rs, overrun.link.replies = r :: rs) ∧
      (let l := { ready.link with tx := some [], reports := [.knobMoved 0 1] }
       l.replies = [] ∧ ∃ r rs, l.reports = r :: rs) ∧
      ready.link.replies = [] ∧ ready.link.reports = [] :=
  ⟨⟨rfl, rfl, _, _, rfl⟩, ⟨rfl, _, _, rfl⟩, rfl, rfl⟩

theorem test_meets_RefusedWhileLoading :
    frameParts (.noteOn 60 100) = some (0x10, [60, 100]) ∧ frameParts .memoryStatus = some (0x48, []) ∧
      loading.running = true ∧ loading.memory.ready = false ∧ loading.link.replies.length < 8 := by
  refine ⟨rfl, rfl, rfl, rfl, by decide⟩

theorem test_meets_OverrunDiscards :
    frameParts .getStatus = some (0x59, []) ∧ isPlay 0x59 = false ∧ overrun.running = true ∧ 8 ≤ overrun.link.replies.length := by
  refine ⟨rfl, rfl, rfl, by decide⟩

/-- With eight replies held: a kind that names no request, a body of the wrong length, a play message during the start-up load, and a
key above 127. -/
theorem test_meets_OverrunDiscards_play :
    let loadingFull := { overrun with memory := State.reset.memory }
    bodyLength 0x60 = none ∧
      (∀ kind : Byte, kind = 0x10 ∨ kind = 0x28 →
        let rx : Receiver := { state := .check, length := 1, kind := kind, body := [0], crc := 0x55 }
        rx.state = .check ∧ (bodyLength rx.kind).any (fun n => decide (rx.body.length ≠ n)) = true) ∧
      (frameParts (.pedal 1) = some (0x12, [1]) ∧ isPlay 0x12 = true ∧ loadingFull.running = true ∧
        8 ≤ loadingFull.link.replies.length ∧ loadingFull.memory.ready = false) ∧
      overrun.memory.ready = true ∧ 127 < (128 : Byte).toNat := by
  refine ⟨rfl, fun kind h => ?_, ⟨rfl, rfl, rfl, by decide, rfl⟩, rfl, by decide⟩
  rcases h with rfl | rfl <;> decide

/-- The least operand that each clause of RefusedRequests takes. -/
theorem test_meets_RefusedRequests :
    ready.takes ∧ ready.memory.op = none ∧ bodyLength 0x77 = none ∧ 127 < (128 : Byte).toNat ∧ 7 < (8 : Byte).toNat ∧
      63 < (64 : Byte).toNat ∧ 47 < (48 : Byte).toNat ∧ 1 < (2 : Byte).toNat ∧ 3 < (4 : Byte).toNat ∧ 4 < (5 : Byte).toNat ∧
      15 < (16 : Byte).toNat ∧ ((3 : Byte) ≠ 1 ∧ (3 : Byte) ≠ 2 ∧ (3 : Byte) ≠ 4 ∧ (3 : Byte) ≠ 8) ∧
      (199999 : BitVec 32).toNat < 200000 ∧ 420000 < (420001 : BitVec 32).toNat := by
  decide

/-- A default setting with one code too large, names with the characters next to the printable ones, and a record with each of its
fields one above its range. -/
theorem test_meets_RefusedRequests_fields :
    let defaults : DefaultsBytes :=
      { scope := 0, depth := 2, force := 0, save := 0, disableFailed := 0, settle := 0, hysteresis := 0, polarity := 0 }
    let field := fun (r : BitVec 896) (lo width : Nat) => r.toNat / 2 ^ lo % 2 ^ width
    let first := fun (nm : BitVec 96) => (nm.extractLsb' 0 8).toNat
    1 < defaults.depth.toNat ∧ first 0x1F < 0x20 ∧ 0x7E < first 0x7F ∧ field 0x34 0 7 ≠ 0x35 ∧
      2000 < field (0x35 ||| 2001 <<< 8) 8 11 ∧ field (0x35 ||| 3 <<< 22) 22 2 = 3 ∧ field (0x35 ||| 3 <<< 27) 27 2 = 3 ∧
      field (0x35 ||| 3 <<< 30) 30 2 = 3 ∧ 24 < field (0x35 ||| 25 <<< 32) 32 5 ∧ 8 < field (0x35 ||| 9 <<< 37) 37 4 ∧
      field (0x35 ||| 0x1F <<< 121) (44 + 7 * 11) 7 < 0x20 ∧ field (0x35 ||| 0x7F <<< 121) (44 + 7 * 11) 7 = 0x7F := by
  decide +kernel

/-- For each clause of ReportsAdmitted an item and a queue at its limit. -/
theorem test_meets_ReportsAdmitted :
    let done : Report := .recallDone 0 .done 0
    let moved : Fin 48 → Report := fun k => .knobMoved k 1
    (classOf done = .completion ∧ (List.replicate 95 done).length < 96) ∧
      ((List.replicate 95 done ++ moved 0 :: []).length = 96 ∧ (∀ x ∈ List.replicate 95 done, classOf x = .completion) ∧
        classOf (moved 0) ≠ .completion) ∧
      ((List.replicate 96 done).length = 96 ∧ ∀ x ∈ List.replicate 96 done, classOf x = .completion) ∧
      classOf (.switchEvent 0 true) = .droppable ∧
      (classOf (moved 1) = .coalesced ∧ (∀ x ∈ [moved 0], sameItem (moved 1) x = false) ∧
        sameItem (moved 1) (.knobMoved 1 9) = true) ∧
      (∀ x ∈ [moved 0], sameItem (moved 1) x = false) ∧ (List.replicate 96 done).length ≤ 96 := by
  decide +kernel

theorem test_meets_RestartSilences :
    (ready.takes ∧ ready.memory.op = none ∧ ready.memory.pendingPanel = none ∧ ready.memory.pendingTune = false) ∧
      ((withOp (linkOp .recall (.slot 0) .read) ready).takes ∧ (withOp (linkOp .recall (.slot 0) .read) ready).memory.op ≠ none) := by
  decide

/-! #### Voices and notes -/

theorem test_meets_NoteOnVoicesKey :
    chord.serving ∧ chord.assigner.setup.mode = .poly ∧ StartOrderWhole chord ∧ ReleaseOrderExact chord ∧
      (127 : Byte).toNat ≤ 127 ∧ (1 : Byte) ≠ 0 ∧
      ((List.finRange 8).filter fun v => (chord.voice v).sounds 127).length ≤ chord.assigner.setup.stack ∧
      ((after (.noteOn 127 1) ready).assigner.keyList.map fun e => e.voices.length) = [1] ∧
      ((after (.noteOn 127 1) { ready with assigner := { ready.assigner with setup := { VoiceSetup.initial with stack := 8 } } })
        |>.assigner.keyList.map fun e => e.voices.length) = [8] := by
  decide

/-- The picks of one key that steals voice 0 of the chord, of one struck again, and of one that ROTATE voices twice. -/
theorem test_meets_NoteOnVoicesKey_picks :
    let voicesOf := fun (t : State) => t.assigner.keyList.getLast?.map KeyEntry.voices
    let pair := { ready with assigner := { ready.assigner with setup := { VoiceSetup.initial with stack := 2 } } }
    KeyListsConsistent chord ∧ chord.serving ∧ pair.serving ∧ KeyListsConsistent pair ∧
      voicesOf (after (.noteOn 76 70) chord) = some [0] ∧ voicesOf (after (.noteOn 64 70) chord) = some [1] ∧
      voicesOf (after (.noteOn 60 1) pair) = some [0, 1] ∧ (after (.noteOn 60 1) pair).table.rotate = 2 := by
  decide

/-- R26 and R27: with keep top a new low key under S 1 spares the highest key; QUIETEST takes voice 2 and REUSE the card of the key. -/
theorem test_chain_policies :
    let under := fun (x : VoiceSetup) (s : State) => { s with assigner := { s.assigner with setup := x } }
    let voicesOf := fun (t : State) => t.assigner.keyList.getLast?.map KeyEntry.voices
    let top := withVoice 0 (sounding 84 100) { chord with assigner := { chord.assigner with
      keyList := { key := 84, velocity := 100, voices := [0] } :: chord.assigner.keyList.drop 1 } }
    voicesOf (after (.noteOn 50 1) (under { VoiceSetup.initial with keepTop := true } top)) = some [1] ∧
      voicesOf (after (.noteOn 50 1) (under { VoiceSetup.initial with steal := .quietest } chord)) = some [2] ∧
      voicesOf (after (.noteOn 50 1) (under { VoiceSetup.initial with assign := .reuse }
        (withVoice 5 (fun x => { x with lastKey := some 50 }) ready))) = some [5] := by
  decide

/-- A key whose voices are all reserved or TUNING waits. -/
theorem test_meets_NoteOnVoicesKey_waits :
    let s := { ready with table := { ready.table with voices := tab fun _ => { Voice.initial with state := .tuning } } }
    s.serving ∧ StartOrderWhole s ∧ ReleaseOrderExact s ∧ (60 : Nat) ∈ (after (.noteOn 60 1) s).assigner.waiting := by
  decide

theorem test_meets_NoteOnLeavesRest :
    chord.serving ∧ chord.assigner.setup.mode = .poly ∧ (0 : Byte).toNat ≤ 127 ∧ (255 : Byte) ≠ 0 ∧
      (chord.voice 5).sounds 0 = false ∧ ((after (.noteOn 0 255) chord).voice 5).sounds 0 = false := by
  decide

theorem test_meets_NoteOffReleases :
    (chord.serving ∧ chord.assigner.setup.mode = .poly ∧ ReleaseOrderExact chord ∧ (72 : Byte).toNat ≤ 127 ∧
        chord.assigner.waiting.filter (· ≠ 72) = [] ∧ (chord.voice 3).sounds 72 = true) ∧
      (let s := { chordFive with assigner := { chordFive.assigner with pedalDown := true } }
       s.serving ∧ ReleaseOrderExact s ∧ s.assigner.pedalDown = true) ∧
      (ready.serving ∧ ReleaseOrderExact ready ∧ ready.assigner.setup.returning = false) := by
  decide

theorem test_meets_NoteOffReturnsVoice :
    let e : KeyEntry := { key := 60, velocity := 100, voices := [] }
    chordFive.serving ∧ chordFive.assigner.setup.mode = .poly ∧ chordFive.assigner.setup.returning = true ∧
      chordFive.assigner.pedalDown = false ∧ (64 : Byte).toNat ≤ 127 ∧
      (chordFive.assigner.waiting.filter (· ≠ 64)).getLast? = some 60 ∧ e ∈ chordFive.assigner.keyList ∧ e.key = 60 ∧
      (chordFive.assigner.keyList.map KeyEntry.key).Nodup ∧ (chordFive.voice 1).sounds 64 = true ∧
      (chordFive.voice 1).reserved = false ∧ ReleaseOrderExact chordFive ∧
      ∀ u < 1, (chordFive.voice u).sounds 64 = true → (chordFive.voice u).reserved = true := by
  decide

/-- The MONO stack of a concrete state, by a check that `decide` can run. -/
theorem stackSounds_of (s : State)
    (h : (s.assigner.setup.mode = .poly → s.assigner.monoKey = none ∧ s.assigner.monoStack = []) ∧ s.assigner.monoStack.Nodup ∧
      s.assigner.monoKey.all (fun k => decide (k ∈ heldKeys s)) = true ∧
      ∀ v ∈ s.assigner.monoStack, (s.voice v).state = .sounding ∧ (s.voice v).key = s.assigner.monoKey) : MonoStackSounds s :=
  ⟨h.1, h.2.1, fun k hk => by simpa [hk] using h.2.2.1, h.2.2.2⟩

/-- A part in MONO with three keys listed, and the priority given. -/
def mono (priority : MonoPriority) : State :=
  { ready with assigner := { ready.assigner with
      setup := { VoiceSetup.initial with mode := .mono, priority }
      keyList := [{ key := 60, velocity := 1, voices := [] }, { key := 48, velocity := 1, voices := [] },
        { key := 127, velocity := 1, voices := [] }] } }

theorem test_meets_MonoKeyIsSelected :
    ∀ priority, (mono priority).serving ∧ (mono priority).assigner.setup.mode = .mono ∧ (127 : Byte).toNat ≤ 127 ∧ (1 : Byte) ≠ 0 ∧
      (127 : Byte).toNat ∈ heldKeys (mono priority) ∧ (mono priority).assigner.setup.priority = priority := by
  intro priority; cases priority <;> decide

/-- A part in MONO, HIGH priority, whose two voices SOUND key 60, voice 1 reserved, over the keys listed; `stack` is the MONO stack. -/
def monoPlaying (retrigger : Bool) (keys : List Nat) (stack : List (Fin 8)) : State :=
  let s := withVoice 0 (sounding 60 100) (withVoice 1 (fun x => { sounding 60 100 x with stackPos := 1, reserved := true }) ready)
  { s with assigner := { s.assigner with
      setup := { VoiceSetup.initial with mode := .mono, stack := 2, priority := .high, retrigger }
      keyList := keys.map fun key => { key, velocity := 100, voices := [] }
      monoKey := some 60
      monoStack := stack } }

/-- What the MONO clauses ask of a state, which a full and an empty stack meet alike. -/
theorem test_meets_MonoStack :
    ∀ retrigger, ∀ keys ∈ [[60], [48, 60]], ∀ stack ∈ [[], [(0 : Fin 8), 1]], let s := monoPlaying retrigger keys stack
      s.serving ∧ s.assigner.setup.mode = .mono ∧ MonoStackSounds s ∧ StartOrderWhole s ∧ ReleaseOrderExact s ∧
        (60 : Nat) ∈ heldKeys s := by
  intro retrigger keys hk stack hs
  refine ⟨⟨rfl, rfl⟩, rfl, ⟨fun h => ?_, ?_, fun k h => ?_, ?_⟩, ?_, ?_, ?_⟩
  · cases h
  · revert stack; revert keys; cases retrigger <;> decide
  · cases h; revert stack; revert keys; cases retrigger <;> decide
  all_goals revert stack; revert keys; cases retrigger <;> decide

/-- The cases of a MONO NOTE_ON and NOTE_OFF: a stack formed, moved, struck again, left alone and let go. -/
theorem test_meets_MonoStack_cases :
    let full := fun keys => monoPlaying true keys [0, 1]
    let empty := fun keys => monoPlaying true keys []
    let key := fun (c : Instr) (s : State) => (after c s).assigner.monoKey
    key (.noteOn 72 1) (empty [60]) = some 72 ∧ key (.noteOn 72 1) (full [60]) = some 72 ∧ key (.noteOn 60 1) (full [60]) = some 60 ∧
      key (.noteOn 48 1) (full [60]) = some 60 ∧ key (.noteOff 48 1) (full [48, 60]) = some 60 ∧
      key (.noteOff 60 1) (full [48, 60]) = some 48 ∧ key (.noteOff 60 1) (empty [48, 60]) = some 48 ∧
      key (.noteOff 60 1) (full [60]) = none := by
  decide

/-- A NOTE_OFF of a key that is not listed: while the mono key is the one selected, with nothing held, and after a change of mono
priority to LOW, which moves the stack to key 48. -/
theorem test_meets_MonoStack_unlisted :
    let full := monoPlaying true [48, 60] [0, 1]
    let low := { full with assigner := { full.assigner with setup := { full.assigner.setup with priority := .low } } }
    ((99 : Nat) ∉ heldKeys full ∧ full.assigner.monoKey = (heldKeys full).max?) ∧
      (mono .last).assigner.setup.mode = .mono ∧ ({ ready with assigner := { ready.assigner with
        setup := { VoiceSetup.initial with mode := .mono } } } : State).assigner.keyList = [] ∧
      low.assigner.keyList ≠ [] ∧ low.assigner.monoKey ≠ (heldKeys low).min? ∧ (∀ v, (low.voice v).sounds 99 = false) ∧
      (after (.noteOff 99 0) low).assigner.monoKey = some 48 := by
  decide

/-- R36 and R12: with retrigger off the stack slides to the new mono key, and its reserved voice is released. -/
theorem test_mono_moves :
    let t := after (.noteOn 72 1) (monoPlaying false [60] [0, 1])
    t.assigner.monoStack = [0] ∧ (t.voice 0).sounds 72 = true ∧ (t.voice 0).gate = .high ∧ (t.voice 1).state = .releasing := by
  decide

theorem test_meets_PedalAndBend :
    ({ chord with assigner := { chord.assigner with pedalDown := true } } : State).serving ∧ chord.serving ∧
      ReleaseOrderExact chord := by
  decide

/-- A FULL job whose round has voice 6 reserved, which sounds key 60, and voice 7 SKIPPED, `wait` ms before the wait limit. -/
def reservedRound (wait : Nat) : State :=
  modJob (fun j => { j with depth := .full, marks := [(6, .reserved), (7, .skipped)], wait })
    (withVoice 6 (fun x => { sounding 60 1 x with reserved := true }) (tuning .confirm 0))

theorem test_meets_AllOffSilences :
    chord.serving ∧ ReleaseOrderExact chord ∧ (1 : Byte) ≠ 0 ∧
      (∀ v, (chord.voice v).inPlay = true → (chord.voice v).reserved = false) ∧
      (reservedRound 9).serving ∧ ReleaseOrderExact (reservedRound 9) ∧ ((reservedRound 9).voice 6).inPlay = true ∧
      ((reservedRound 9).voice 6).reserved = true := by
  decide

/-- R154, R155 and R163: a reserved voice that ALL_OFF cuts, or whose release ends, or that the wait limit takes, is TAKEN; the
wait ends, and its two channels stand at their first trial of twelve, code 10922, with the override loading it. -/
theorem test_reserved_starts :
    let ending := withVoice 6 (fun x => { x with state := .releasing }) (reservedRound 9)
    ∀ t ∈ [after (.allOff 1) (reservedRound 9), after (.releaseEnd 6) ending, after .waitLimitExpiry (reservedRound 0)],
      (t.voice 6).state = .tuning ∧ t.tune.job.map Job.marks = some [(6, .taken), (7, .skipped)] ∧ t.tune.job.map Job.wait = some 0 ∧
        (t.tune.channels[(0 : Fin 4)].osc = some 12 ∧ t.tune.channels[(1 : Fin 4)].osc = some 13) ∧
        (t.tune.channels[(0 : Fin 4)].phase = .delivery ∧ t.tune.channels[(0 : Fin 4)].trials = 12) ∧
        t.refresh.overrides[(12 : Fin 16)] = { code := 10922, valid := true, loadPending := true } ∧
        t.refresh.overrides[(13 : Fin 16)] = { code := 10922, valid := true, loadPending := true } := by
  decide

theorem test_meets_VoiceEnable :
    (chord.takes ∧ (∀ v : Fin 8, (0xFF : Byte).getLsbD v.val = true → (chord.voice v).state ≠ .tuning ∧ (chord.voice v).reserved = false) ∧
        chord.assigner.setup.mode = .poly ∧ chord.assigner.waiting = [] ∧ KeyListsConsistent chord) ∧
      (let s := withVoice 7 (fun x => { x with state := .tuning }) ready
       s.takes ∧ ∃ v : Fin 8, (0x80 : Byte).getLsbD v.val = true ∧ ((s.voice v).state = .tuning ∨ (s.voice v).reserved = true)) ∧
      (let s := withVoice 0 (fun x => { sounding 60 1 x with reserved := true }) ready
       s.takes ∧ ∃ v : Fin 8, (0x01 : Byte).getLsbD v.val = true ∧ ((s.voice v).state = .tuning ∨ (s.voice v).reserved = true)) := by
  decide

/-- Two OFF voices return while one key waits, in POLY; in MONO with no mono key; and in MONO to a stack of one voice of two. -/
theorem test_meets_VoiceEnable_on :
    let off := fun s : State => withVoice 4 (fun x => { x with state := .off, enabled := false }) s
    let short := withVoice 1 (fun _ => Voice.initial) (monoPlaying true [60] [0])
    (chordFive.takes ∧ chordFive.assigner.setup.mode = .poly ∧ KeyListsConsistent chordFive ∧ MonoStackSounds chordFive ∧
        chordFive.assigner.setup.stack ≤ 8 ∧ chordFive.assigner.waiting = [60] ∧
        ∀ v : Fin 8, (0x30 : Byte).getLsbD v.val = true → (chordFive.voice v).state = .off ∧ (chordFive.voice v).reserved = false) ∧
      (∀ s ∈ [off { ready with assigner := { ready.assigner with setup := { VoiceSetup.initial with mode := .mono } } }, off short],
        s.takes ∧ s.assigner.setup.mode = .mono ∧ KeyListsConsistent s ∧ s.assigner.setup.stack ≤ 8 ∧
          (s.voice 4).state = .off ∧ (s.voice 4).reserved = false) ∧
      MonoStackSounds (off short) ∧ (off short).assigner.monoKey = some 60 ∧ (off short).assigner.monoStack = [0] := by
  refine ⟨⟨by decide, rfl, by decide, ⟨fun _ => ⟨rfl, rfl⟩, by decide, fun _ h => (by cases h), fun _ h => (by cases h)⟩, by decide, rfl,
    by decide⟩, by decide, ⟨fun h => ?_, by decide, fun k h => ?_, by decide⟩, rfl, rfl⟩
  · cases h
  · cases h; decide

/-- A setup record: its mode, its stack size and its bend range; every other byte as after reset. -/
def setupBytes (mode stack bendRange : Byte) : SetupBytes :=
  { mode, stack, assign := 0, steal := 0, keepTop := 0, returning := 0, priority := 0, retrigger := 1, glide := 0, bendRange,
    gap := 1, width := 2 }

/-- Every field of a setup record is in its range. -/
def setupInRange (b : SetupBytes) : Bool :=
  decide (b.mode.toNat ≤ 1 ∧ (b.stack = 1 ∨ b.stack = 2 ∨ b.stack = 4 ∨ b.stack = 8) ∧ b.assign.toNat ≤ 2 ∧
    b.steal.toNat ≤ 1 ∧ b.keepTop.toNat ≤ 1 ∧ b.returning.toNat ≤ 1 ∧ b.priority.toNat ≤ 2 ∧ b.retrigger.toNat ≤ 1 ∧
    b.glide.toNat ≤ 2 ∧ b.bendRange.toNat ≤ 24 ∧ b.gap.toNat ≤ 8 ∧ 1 ≤ b.width.toNat ∧ b.width.toNat ≤ 8)

/-- The four cases of VoiceSetupReplaced over a part in POLY with S 1, with the fields at the ends of their ranges. -/
theorem test_meets_VoiceSetupReplaced :
    (chord.takes ∧ KeyListsConsistent chord ∧ StartOrderWhole chord ∧ ReleaseOrderExact chord ∧
      chord.assigner.setup.mode = .poly ∧ chord.assigner.setup.stack = 1) ∧
      setupInRange (setupBytes 0 1 24) = true ∧ setupInRange (setupBytes 0 8 2) = true ∧
      (∀ priority, setupInRange { setupBytes 1 2 2 with priority := byteOf (priorityCode priority) } = true) ∧
      setupInRange { setupBytes 0 1 0 with gap := 8, width := 8, glide := 2, assign := 2 } = true ∧
      [setupBytes 2 1 2, setupBytes 0 3 2, setupBytes 0 1 25, { setupBytes 0 1 2 with width := 0 }, { setupBytes 0 1 2 with gap := 9 },
        { setupBytes 0 1 2 with glide := 3 }].map setupInRange = [false, false, false, false, false, false] := by
  refine ⟨by decide, by decide, by decide, ?_, by decide, by decide⟩
  intro priority; cases priority <;> decide

/-- R43 over the chord: 72 gets back voice 3 and takes the oldest RELEASING voice 0, 67 takes 2 and 1, then 64 and 60 steal them
again, so that 72 and then 67 wait; in MONO the low key takes voice 0 and the oldest RELEASING voice 1. -/
theorem test_reassign :
    let poly := after (.setVoiceSetup { setupBytes 0 2 2 with returning := 1 }) chord
    let mono := after (.setVoiceSetup { setupBytes 1 2 2 with priority := 1 }) chord
    (poly.assigner.keyList.map fun e => (e.key, e.voices)) = [(60, [2, 1]), (64, [3, 0]), (67, []), (72, [])] ∧
      poly.assigner.waiting = [72, 67] ∧ poly.table.releaseOrder = [] ∧ (poly.voice 1).velocity = 100 ∧
      mono.assigner.monoKey = some 60 ∧ mono.assigner.monoStack = [0, 1] ∧ mono.table.releaseOrder = [2, 3] ∧
      (mono.voice 2).release = 205 := by
  decide +kernel

/-! #### The rotation and the timers -/

/-- The part in slot `n`. -/
def inSlot (n : Fin 48) (s : State) : State := { s with refresh := { s.refresh with slot := n } }

theorem test_meets_SlotsFollowRotation :
    let t := withVoice 0 (fun x => { x with state := .tuning })
      { ready with refresh := { ready.refresh with overrides := tab fun _ => { code := 65535, valid := true, loadPending := true } } }
    (∀ n, (inSlot n ready).running = true) ∧
      (((47 + 1 : Fin 48).val % 6 < 2 ∧ (t.voice (slotVoice 0)).state = .tuning ∧ t.refresh.overrides[slotOscillator 0].valid = true)) ∧
      ((ready.voice (slotVoice 0)).state ≠ .tuning) ∧ (1 + 1 : Fin 48).val % 6 = 2 ∧ (2 + 1 : Fin 48).val % 6 = 3 ∧
      4 ≤ (3 + 1 : Fin 48).val % 6 ∧ 4 ≤ (46 + 1 : Fin 48).val % 6 := by
  decide

/-- The slot that delivers the override of oscillator 6 to the channel that waits for it. -/
theorem test_meets_SlotsFollowRotation_delivers :
    let s := inSlot 18 (modChannel 2 (fun ch => { ch with phase := .delivery }) (withVoice 3 (fun x => { x with state := .tuning })
      { tuning .confirm 0 with refresh := { ready.refresh with
        overrides := ready.refresh.overrides.set 6 { code := 1, valid := true, loadPending := false }, carried := true } }))
    let o := slotOscillator s.refresh.slot
    (o = 6 ∧ s.refresh.slot.val % 6 < 2 ∧ s.refresh.carried = true ∧ s.refresh.overrides[o].valid = true ∧
        s.refresh.overrides[o].loadPending = false) ∧
      (∀ c d : Fin 4, s.tune.channels[c].osc = some o → s.tune.channels[d].osc = some o → c = d) ∧
      (∃ j, s.tune.job = some j) ∧ s.tune.channels[(2 : Fin 4)].osc = some o ∧ s.tune.channels[(2 : Fin 4)].phase = .delivery ∧
      (after .slotCompletion s).tune.channels[(2 : Fin 4)].phase = .settle := by
  refine ⟨by decide, by decide, ⟨_, rfl⟩, by decide, by decide, by decide⟩

theorem test_meets_GateRisesOnPitch :
    let armed := fun (a b stale : Bool) => withVoice 7 (fun x => { sounding 60 1 x with gate := .armed, refreshedA := a, refreshedB := b })
      (inSlot 43 { ready with refresh := { ready.refresh with stale } })
    ∀ a b stale, (armed a b stale).running = true ∧ (armed a b stale).refresh.slot.val % 6 < 2 ∧
      slotVoice (armed a b stale).refresh.slot = 7 ∧ ((armed a b stale).voice 7).gate = .armed ∧
      (armed a b stale).refresh.stale = stale := by
  decide

theorem test_meets_TimersExpire :
    (let s := withVoice 7 (fun x => { x with gate := .gap }) chord
     (s.voice 7).gate = .gap ∧ (s.voice 7).gap = 0 ∧ s.running = true) ∧
      (chord.voice 0).trigger = 0 ∧
      ({ ready with matrix := { ready.matrix with blinkRemaining := 0 } } : State).matrix.blinkRemaining = 0 ∧
      (let s := modChannel 3 (fun ch => { ch with phase := .settle, timer := 0 }) ready
       s.tune.channels[(3 : Fin 4)].phase = .settle ∧ s.tune.channels[(3 : Fin 4)].timer = 0) ∧
      (let m : Morph := { start := 0, elapsed := 1 }
       let s := modParam 63 (fun r => { r with morph := some m }) { ready with params := { ready.params with morphLength := some 2 } }
       s.params.records[(63 : Fin 64)].morph = some m ∧ s.params.morphLength = some 2 ∧ 2 ≤ m.elapsed + 1) := by
  decide

theorem test_meets_ReleaseEnds :
    let held := fun (reserved : Bool) (s : State) => withVoice 7 (fun x => { x with state := .releasing, enabled := true, reserved })
      { s with table := { s.table with releaseOrder := [7] } }
    (((held false ready).voice 7).state = .releasing ∧ ((held false ready).voice 7).release = 0 ∧
        ((held false ready).voice 7).reserved = false ∧ (held false ready).assigner.setup.returning = false) ∧
      (∀ s ∈ [held true ready, held true (tuning .confirm 0)], s.running = true ∧ (s.voice 7).state = .releasing ∧
        (s.voice 7).release = 0 ∧ (s.voice 7).reserved = true) ∧
      (let s := held false chordFive
       let e : KeyEntry := { key := 60, velocity := 100, voices := [] }
       s.running = true ∧ (s.voice 7).state = .releasing ∧ (s.voice 7).release = 0 ∧ (s.voice 7).reserved = false ∧
         s.assigner.setup.mode = .poly ∧ s.assigner.setup.returning = true ∧ s.assigner.waiting.getLast? = some 60 ∧
         e ∈ s.assigner.keyList ∧ e.key = 60 ∧ (s.assigner.keyList.map KeyEntry.key).Nodup) := by
  decide

theorem test_meets_TickAdvances : chord.running = true := rfl

/-! #### Codes and offsets -/

theorem test_meets_PitchOffsets :
    (2041 ≤ 4095 ∧ 2055 ≤ 4095 ∧ (-24 : Int) ≤ -24 ∧ (24 : Int) ≤ 24 ∧ (-8192 : Int) ≤ 8191 ∧ 24 ≤ 24) ∧ (7 ≤ 7 ∧ 1 ≤ 8 ∧ 7 < 8) ∧
      ready.assigner.bend = 0 ∧ ready.assigner.setup.bendRange = 2 := by decide

/-- A pitch of each of the three ranges at its ends, and a voice on the map. -/
theorem test_meets_VoltageMap :
    (∀ p ∈ ([0, 6143, 6144, 24575, 24576, 32767] : List Int), 0 ≤ p ∧ p ≤ 32767) ∧ (6143 : Int) < 6144 ∧ (24575 : Int) < 24576 ∧
      (ready.voice 7).state ≠ .tuning := by decide

theorem test_meets_LevelAndGlobalCodes :
    let s := modParam 7 (fun r => { r with value := 4095 }) (withVoice 0 (fun x => { x with velocity := 1 }) ready)
    (1 ≤ (s.voice 0).velocity ∧ (s.voice 0).velocity ≤ 127 ∧ s.param 7 ≤ 4095) ∧ (s.voice 1).velocity = 127 ∧
      ready.param 7 = 0 ∧ 4094 < 4095 := by decide

/-! #### Parameters, knobs and the panel -/

theorem test_meets_SetParamWrites : ready.takes ∧ (63 : Byte).toNat = (63 : Fin 64).val ∧ (0 : Byte).toNat = (0 : Fin 64).val := by
  decide

/-- The operands of each clause of SettingRequests at their limits. -/
theorem test_meets_SettingRequests :
    let b : DefaultsBytes :=
      { scope := 0, depth := 1, force := 1, save := 1, disableFailed := 1, settle := 0, hysteresis := 1, polarity := 1 }
    let flags : BitVec 88 := 0x0101010101010101010101
    ready.takes ∧ ready.tune.job = none ∧ (tuning .confirm 0).takes ∧ (tuning .confirm 0).tune.job ≠ none ∧
      (127 : Byte).toNat ≤ 127 ∧ 200000 ≤ (200000 : BitVec 32).toNat ∧ (420000 : BitVec 32).toNat ≤ 420000 ∧
      (b.depth.toNat ≤ 1 ∧ b.force.toNat ≤ 1 ∧ b.save.toNat ≤ 1 ∧ b.disableFailed.toNat ≤ 1 ∧ b.hysteresis.toNat ≤ 1 ∧
        b.polarity.toNat ≤ 1) ∧
      (∀ i : Fin 11, flags.extractLsb' (8 * i.val) 8 = if (0x7FF : BitVec 11).getLsbD i.val then 1 else 0) ∧
      1 < ((0x0200000000000000000000 : BitVec 88).extractLsb' (8 * (10 : Fin 11).val) 8).toNat := by
  decide +kernel

theorem test_meets_KnobMapping :
    ready.takes ∧ (47 : Byte).toNat = (47 : Fin 48).val ∧ (63 : Byte).toNat = (63 : Fin 64).val ∧ 63 < (64 : Byte).toNat ∧
      63 < (254 : Byte).toNat ∧ (254 : Byte) ≠ 0xFF := by decide

/-- The operands of each clause of PanelRequests at their limits. -/
theorem test_meets_PanelRequests :
    let cs : Vector Condition 64 := tab fun i => if i.val = 63 then .changed else .ignore
    let conditions : BitVec 192 := BitVec.ofNat 192 (5 * 2 ^ 189)
    let mask : BitVec 64 := BitVec.ofNat 64 (2 ^ 63)
    let blink : BitVec 128 := BitVec.ofNat 128 (2 * 2 ^ 126)
    ready.takes ∧
      ((63 : Byte).toNat = (63 : Fin 64).val ∧ (3 : Byte).toNat = specCode .both ∧ (1 : Byte).toNat = actionCode (.recall 127) ∧
        127 = (127 : Byte).toNat ∧ (6 : Byte).toNat = actionCode .storeCurrent) ∧
      (3 < (4 : Byte).toNat ∧ 6 < (7 : Byte).toNat ∧ 127 < (128 : Byte).toNat) ∧
      ((3 : Byte).toNat = (3 : Fin 4).val ∧ (∀ i : Fin 64, (conditions.extractLsb' (3 * i.val) 3).toNat = conditionCode cs[i]) ∧
        (1 : Byte) = (if true then 1 else 0) ∧ (6 : Byte).toNat = actionCode .storeCurrent ∧ Action.storeCurrent ≠ .pedal) ∧
      5 < ((BitVec.ofNat 192 (6 * 2 ^ 189)).extractLsb' (3 * (63 : Fin 64).val) 3).toNat ∧ 1 < (2 : Byte).toNat ∧
      (∀ i : Fin 64, mask.getLsbD i.val = true → (blink.extractLsb' (2 * i.val) 2).toNat = lampStateCode .blink) ∧
      (mask.getLsbD (63 : Fin 64).val = true ∧ (BitVec.ofNat 128 (3 * 2 ^ 126)).extractLsb' (2 * (63 : Fin 64).val) 2 = 3) ∧
      (2 : Byte).toNat = bindingCode .tuning ∧ 2 < (3 : Byte).toNat := by
  decide +kernel

theorem test_meets_ReadRequests :
    (ready.running = true ∧ ready.link.replies.length < 8 ∧ ready.memory.ready = true) ∧
      (loading.running = true ∧ loading.link.replies.length < 8) ∧
      (7 : Byte).toNat = (7 : Fin 8).val ∧ (63 : Byte).toNat = (63 : Fin 64).val ∧ (47 : Byte).toNat = (47 : Fin 48).val ∧
      (4 : Byte).toNat = (3 : Fin 4).val + 1 ∧ (15 : Byte).toNat = (15 : Fin 16).val ∧
      (∀ i : Fin 64, (0 : Nat).testBit i.val = ready.matrix.switches[i].stable) ∧
      ∀ i : Fin 64, 0 / 8 ^ i.val % 8 = conditionCode ready.matrix.groups[(3 : Fin 4)].conditions[i] := by decide +kernel

/-- The scanner at a point of a frame, with banks enabled. -/
def scanning (pos : ScanPos) (banks : BitVec 6) : State :=
  { ready with scanner := { ready.scanner with pos, inEffect := { ScanSettings.initial with banks } } }

theorem test_meets_PanelFrameMoves :
    ((scanning (.settling 7) 0x20).running = true ∧ (scanning (.settling 7) 0x20).scanner.pos = .settling 7 ∧
        (0x20 : BitVec 6).getLsbD (5 : Fin 6).val = true ∧ ∀ c : Fin 6, c < 5 → (0x20 : BitVec 6).getLsbD c.val = false) ∧
      ((scanning (.settling 6) 0).scanner.pos = .settling 6 ∧ (scanning (.settling 6) 0).scanner.inEffect.banks = 0) ∧
      (scanning .supply 0x3F).scanner.pos = .supply := by decide

/-- Knob 47 about to be converted, its record given by a change of `ready`'s. -/
def converting (f : Knob → Knob) (s : State) : State :=
  modKnob 47 f { s with scanner := { s.scanner with pos := .converting 7 5 } }

/-- Knobs of KnobConverted: not seeded; seeded and still; moved up (ADC 4095 takes the filter from 0 to 1024) while the part
loads, unmapped, locked, waiting in vain, and locking. -/
theorem test_meets_KnobConverted :
    (47 : Fin 48).val = 8 * (5 : Fin 6).val + (7 : Fin 8).val ∧
      (∀ s ∈ [ready, loading, converting (fun k => { k with seeded := true }) ready], s.running = true ∧
        (converting id s).scanner.pos = .converting 7 5) ∧
      (3 * 0 + 4095 + 2) / 4 = 1024 ∧ 0 + ready.scanner.inEffect.deadband < 1024 ∧
      (let k := (converting (fun k => { k with seeded := true, mapping := none }) ready).scanner.knobs[(47 : Fin 48)]
       k.seeded = true ∧ k.filtered = 0 ∧ k.reported = 0 ∧ k.mapping = none) ∧
      (let k := (converting (fun k => { k with seeded := true, pickup := .waitRise }) ready).scanner.knobs[(47 : Fin 48)]
       k.mapping = some 47 ∧ k.pickup = .waitRise ∧ ready.param 47 ≤ 1024 + 6) ∧
      (let s := converting (fun k => { k with seeded := true, pickup := .waitRise }) (modParam 47 (fun r => { r with value := 1031 }) ready)
       s.scanner.knobs[(47 : Fin 48)].pickup ≠ .locked ∧ ¬ s.param 47 ≤ 1024 + 6) ∧
      loading.memory.ready = false ∧ ready.memory.ready = true ∧
      (∀ c : Fin 6, 5 < c → ready.scanner.inEffect.banks.getLsbD c.val = false) := by
  decide

/-- R77 and R84: a knob's write ends the morph of its parameter, and with the last morph the morph length. -/
theorem test_write_ends_last_morph :
    let m : Morph := { start := 0, elapsed := 1 }
    let s := { ready with params := { ready.params with morphLength := some 2000 } }
    let knob := converting (fun k => { k with seeded := true, mapping := some 47, pickup := .locked })
    let one := modParam 47 (fun r => { r with morph := some m }) s
    let two := modParam 46 (fun r => { r with morph := some m }) one
    (after (.knobConversionComplete 0xFFF) (knob one)).params.morphLength = none ∧
      (after (.knobConversionComplete 0xFFF) (knob two)).params.morphLength = some 2000 ∧
      (after (.knobConversionComplete 0xFFF) (knob two)).params.records[(47 : Fin 64)].morph = none := by
  decide

/-- A knob of bank 4 is followed by bank 5. -/
theorem test_meets_KnobConverted_next :
    (4 : Fin 6) < 5 ∧ ready.scanner.inEffect.banks.getLsbD (5 : Fin 6).val = true ∧
      ∀ c : Fin 6, 4 < c → c < 5 → ready.scanner.inEffect.banks.getLsbD c.val = false := by decide

/-- The matrix at its last row, with one press of switch 63 about to be accepted. -/
def lastRow (spec : ReportSpec) (action : Action) : State :=
  { ready with matrix := { ready.matrix with
      row := 7, priming := false, debounce := 1, switches := upd ready.matrix.switches 63 fun x => { x with spec, action } } }

/-- Match group 2 watches switch 63. -/
def watched : State :=
  let s := lastRow .none .none
  { s with matrix := { s.matrix with
      groups := upd s.matrix.groups 2 fun x => { x with conditions := x.conditions.set 63 .pressed, latched := true, action := .next } } }

/-- The cases of RowSensed: a row before the last, a priming completion, and a completion at which switches and groups act, whose
stable states are the bits of 2 ^ 63. -/
theorem test_meets_RowSensed :
    (ready.running = true ∧ ready.matrix.row ≠ 7) ∧ (({ ready with matrix := { ready.matrix with row := 7 } } : State).matrix.priming = true) ∧
      (watched.running = true ∧ watched.matrix.row = 7 ∧ watched.matrix.priming = false ∧ watched.memory.ready = true) ∧
      (after (.rowStepEnd 0x80) watched).matrix.switches.toList.map Switch.stable =
        (List.range 64).map fun i => (BitVec.ofNat 64 (2 ^ 63)).getLsbD i := by
  decide +kernel

/-- R115 to R118, R140: the group that fires starts its NEXT and reports the states it saw; a TUNE action starts a job. -/
theorem test_row_acts :
    (let t := after (.rowStepEnd 0x80) watched
     t.memory.op = some (panelStart none .next) ∧
       t.link.tx = some (frameBytes 0x6A [2, 1, 0, 0, 0, 0, 0, 0, 0, 0, 0x80])) ∧
      (after (.rowStepEnd 0x80) (lastRow .none .tune)).tune.job.map Job.origin = some .panel := by
  decide +kernel

/-- R113 and R116: of two presses at one completion the lower switch's NEXT starts and the higher one's RECALL becomes pending. -/
theorem test_two_edges :
    let s := lastRow .none (.recall 5)
    let two := { s with matrix := { s.matrix with switches := upd s.matrix.switches 56 fun x => { x with action := .next } } }
    let t := after (.rowStepEnd 0x81) two
    t.memory.op = some (panelStart none .next) ∧ t.memory.pendingPanel = some (.recall 5) ∧ t.memory.pendingOrder = [.panelOp] := by
  decide +kernel

/-! #### Patch memory -/

/-- A record in range, with the largest morph time. -/
def record : BitVec 896 := makeRecord false 2000 VoiceSetup.initial (List.replicate 12 0x7E) (List.replicate 64 4095)

/-- The store with a record in slot `n`. -/
def holding (n : Nat) (r : BitVec 896) (s : State) : State :=
  { s with memory := { s.memory with store := programBlocks [] (slotBlocks n) (recordBlocks r) s.memory.store } }

/-- The part with its supply at the threshold. -/
def supplied (s : State) : State := { s with scanner := { s.scanner with supply := 2900 } }

theorem test_meets_LiveRecordRoundTrip :
    (List.replicate 12 0x7E).length = 12 ∧ (∀ c ∈ List.replicate 12 0x7E, c ≤ 0x7F) ∧ ready.assigner.setup.InRange ∧
      ready.params.morphTime ≤ 2000 ∧ (∀ p : Fin 64, ready.params.records[p].target ≤ 4095) ∧
      ∀ c ∈ List.replicate 12 0x7E, 0x20 ≤ c ∧ c ≤ 0x7E := by
  decide +kernel

/-- The cases of MemoryRequestsStart: an operation in flight, an item pending or not; a tune job, the memory free; the supply
good over an empty slot; a protected slot; the supply low. -/
theorem test_meets_MemoryRequestsStart :
    let s := supplied ready
    let guarded := { s with memory := { s.memory with store := { cells := [(14 * 127 * 8, 0xB5)], errors := [] } } }
    let low := { ready with scanner := { ready.scanner with supply := 2899 } }
    let spaces : BitVec 96 := 0x202020202020202020202020
    let busy := withOp (linkOp .recall (.slot 0) .read) ready
    (∀ s ∈ [busy, { busy with memory := { busy.memory with pendingTune := true, pendingOrder := [.tuneSave] } }],
        s.takes ∧ StoreCanonical s ∧ s.memory.op ≠ none) ∧
      (let s := tuning .confirm 0
       s.takes ∧ StoreCanonical s ∧ s.tune.job ≠ none ∧ s.memory.op = none) ∧
      (s.takes ∧ StoreCanonical s ∧ s.memory.pendingOrder = [] ∧ s.memory.op = none ∧ 2900 ≤ s.scanner.supply ∧ s.tune.job = none) ∧
      ((127 : Byte).toNat ≤ 127 ∧ recordWritable record = true ∧ blockErrors s.memory.store (14 * 127) = 0 ∧
        storeByte s.memory.store (14 * 127) 0 ≠ 0xB5) ∧
      (∀ j : Fin 12, 0x20 ≤ (spaces.extractLsb' (8 * j.val) 8).toNat ∧ (spaces.extractLsb' (8 * j.val) 8).toNat ≤ 0x7E) ∧
      (guarded.takes ∧ StoreCanonical guarded ∧ storeByte guarded.memory.store (14 * 127) 0 = 0xB5) ∧
      low.takes ∧ StoreCanonical low ∧ low.scanner.supply < 2900 := by
  decide +kernel

theorem test_meets_ErasedThenProgrammed :
    (let s := withOp (linkOp .store (.slot 127) .erase) ready
     s.running = true ∧ StoreCanonical s ∧ s.memory.op.map MemOp.phase = some .erase) ∧
      (let s := withOp (linkOp .store (.slot 127) .program) ready
       StoreCanonical s ∧ s.memory.op.map MemOp.phase = some .program ∧
         (bodyProgram (linkOp .store (.slot 127) .program) s.memory).1[13]? = some (14 * 127 + 13)) := by
  decide +kernel

/-- The last block of each body of ErasedThenProgrammed. -/
theorem test_meets_ErasedThenProgrammed_body :
    let zipped := fun (first count : Nat) (image : List (BitVec 64)) => (((List.range count).map (first + ·)).zip image).map Prod.fst
    1823 ∈ zipped 1792 32 (tuningImage Tune.nominalTable) ∧ 1886 ∈ zipped 1840 47 (setupImage ready) ∧
      (14 * 127, (0xB5 ||| 0x7F : BitVec 64)) ∈ (([0xB5] : List (BitVec 64)).take 1).map fun d => (14 * 127, d ||| 0x7F) := by
  decide +kernel

/-- The five programming operations at the end of their verify, each over a body without errors. -/
def verifying : List (OpKind × Target × List (BitVec 64)) :=
  [(.store, .slot 127, []), (.patchWrite, .slot 0, []), (.protect, .slot 127, [0xB5]),
    (.tuningSave, .tuningArea, tuningImage Tune.nominalTable), (.setupSave, .setupArea, setupImage ready)]

/-- The body, the marking blocks and their data, as VerifiedAndMarked writes them. -/
def bodyOf (op : MemOp) : List Nat :=
  match op.target with
  | .slot n => if op.kind = .protect then [14 * n] else (List.range 14).map (14 * n + ·)
  | .tuningArea => (List.range 32).map (1792 + ·)
  | .setupArea => (List.range 47).map (1840 + ·)
  | .wholeLoad => []

def marksOf (op : MemOp) : List Nat :=
  match op.target with
  | .slot n => [14 * n]
  | .tuningArea => (List.range 16).map (1824 + ·)
  | .setupArea => [1887]
  | .wholeLoad => []

def dataOf (op : MemOp) (m : Memory) : List (BitVec 64) :=
  match op.target with
  | .slot _ => if op.kind = .protect then op.image else [((m.writeBuffer.map WriteBuffer.record).getD 0).extractLsb' 0 64]
  | .tuningArea => op.image.drop 32
  | .setupArea => op.image.drop 47
  | .wholeLoad => []

theorem test_meets_VerifiedAndMarked :
    ∀ x ∈ verifying,
      let op : MemOp := { linkOp x.1 x.2.1 .verify with image := x.2.2 }
      let s := withOp op { ready with memory := { ready.memory with writeBuffer := some { slot := 127, record } } }
      s.running = true ∧ StoreCanonical s ∧ s.memory.op = some op ∧ op.phase = .verify ∧ op.origin = .link ∧
        s.memory.pendingOrder = [] ∧ (∀ b ∈ bodyOf op, blockErrors s.memory.store b = 0) ∧
        (marksOf op).length = (dataOf op s.memory).length ∧
        (op.kind = .store ∨ op.kind = .patchWrite ∨ op.kind = .protect →
          ((dataOf op s.memory).map fun d => d.toNat % 128) = [0x35] ∧ (storeByte s.memory.store (14 * op.slot) 0).toNat % 128 ≠ 0x35) ∧
        (∀ b ∈ marksOf op, blockErrors s.memory.store b = 0) ∧
        (op.kind = .setupSave → dataOf op s.memory ≠ [blockData s.memory.store 1887]) ∧
        (op.kind = .tuningSave → 1839 ∈ marksOf op ∧ sparseRead 0 [(1839, (1 : BitVec 72))] 1839 ≠ 0) := by
  decide +kernel

/-- The operations of the witness above fit their kinds. -/
theorem test_meets_VerifiedAndMarked_fits :
    ∀ x ∈ verifying, OperationFits (withOp { linkOp x.1 x.2.1 .verify with image := x.2.2 } ready) := by
  intro x hx op h
  cases h
  simp only [verifying, List.mem_cons, List.not_mem_nil, or_false] at hx
  rcases hx with rfl | rfl | rfl | rfl | rfl <;> simp [MemOp.Fits, linkOp]

/-- A tuning save of origin TUNE with its job, and one bit in error in the first status block, which an erased area reads corrected. -/
def closing : State :=
  let op : MemOp := { linkOp .tuningSave .tuningArea .verify with origin := .tune, image := tuningImage Tune.nominalTable }
  let s := tuning .confirm 0
  { s with memory := { s.memory with
      op := some op, pendingTune := true, store := { cells := [], errors := [(1824, 1)] } } }

theorem test_meets_VerifiedAndMarked_tune :
    closing.running = true ∧ StoreCanonical closing ∧ closing.memory.op.map MemOp.origin = some .tune ∧
      closing.memory.pendingOrder = [] ∧ closing.tune.job ≠ none ∧
      (∀ b ∈ (List.range 32).map (1792 + ·), blockErrors closing.memory.store b = 0) ∧
      blockErrors closing.memory.store 1824 = 1#72 <<< (0 : Fin 72).val ∧
      (3 : BitVec 72) = 1#72 <<< (0 : Fin 72).val ||| 1#72 <<< (1 : Fin 72).val := by
  decide +kernel

/-- R128, R141 and R165: the read that shows the status blocks untaken is counted, and the job ends with its pending save. -/
theorem test_tune_save_fails :
    let t := after (.tuningSaveComplete { took := false, errors := [] }) closing
    t.memory.secCount = 1 ∧ t.memory.lastSec = some 1824 ∧ t.tune.job = none ∧ t.memory.pendingTune = false ∧ t.memory.op = none := by
  decide +kernel

/-- A body block with a bit in error. -/
theorem test_meets_VerifiedAndMarked_failed :
    let op := linkOp .store (.slot 127) .verify
    let s := withOp op { ready with memory := { ready.memory with store := { cells := [], errors := [(14 * 127 + 13, 1)] } } }
    StoreCanonical s ∧ s.memory.op = some op ∧ s.memory.pendingOrder = [] ∧
      ∃ b ∈ bodyOf op, blockErrors s.memory.store b ≠ 0 := by
  decide +kernel

/-- R132 and R139: a verify that fails on two wrong bits in the tag block itself leaves a slot that reads EMPTY, not CORRUPT. -/
theorem test_verify_failed_reads_empty :
    let s := fun kind image => withOp { linkOp kind (.slot 127) .verify with image := image }
      { ready with memory := { ready.memory with
        writeBuffer := some { slot := 127, record }, store := { cells := [], errors := [(14 * 127, 3)] } } }
    let outcome := fun (t : State) => (readSlot 127 t.memory).1.outcome
    outcome (s .store []) = .corrupt ∧ outcome (after (.storeComplete { took := true, errors := [] }) (s .store [])) = .empty ∧
      outcome (after (.protectComplete { took := true, errors := [] }) (s .protect [0xB5])) = .empty := by
  decide +kernel

theorem test_meets_StoredSlotReadsBack :
    let op := linkOp .store (.slot 127) .erase
    let s := withOp op { ready with memory := { ready.memory with writeBuffer := some { slot := 127, record } } }
    s.running = true ∧ StoreCanonical s ∧ s.memory.op = some op ∧ op.target = .slot 127 ∧ op.phase = .erase ∧
      s.memory.writeBuffer = some { slot := 127, record } ∧ record.toNat % 128 = 0x35 ∧ s.memory.pendingOrder = [] := by
  decide +kernel

/-- The two saves of StoredSlotReadsBack, over settings in range, and a part at the load of each area. -/
theorem test_meets_StoredSlotReadsBack_areas :
    let x := ready
    let tuningOp : MemOp := { linkOp .tuningSave .tuningArea .erase with image := tuningImage x.tune.table }
    let setupOp : MemOp := { linkOp .setupSave .setupArea .erase with image := setupImage x }
    (ready.running = true ∧ StoreCanonical ready ∧ ready.memory.pendingOrder = []) ∧
      (tuningOp.phase = .erase ∧ tuningOp.origin = .link ∧ tuningOp.target = .tuningArea ∧
        ∀ (o : Fin 16) (k : Fin 8), x.tune.table[o][k].entry ≤ 65535) ∧
      (setupOp.phase = .erase ∧ setupOp.origin = .link ∧ setupOp.target = .setupArea) ∧ SettingsInRange x ∧ MappingUnique x ∧
      (∀ i : Fin 64, x.matrix.switches[i].action = .none) ∧ (∀ g : Fin 4, x.matrix.groups[g].action = .none) ∧
      State.reset.running = true ∧ State.reset.memory.op.map MemOp.phase = some .loadSetup ∧ 325 ≤ 375 ∧ 375 < 376 := by
  decide +kernel

/-- The part at the end of a recall's read of slot 127, which holds a record. -/
def recalling (r : BitVec 896) : State := withOp (linkOp .recall (.slot 127) .read) (holding 127 r ready)

/-- The three cases of RecallCompletes: a slot that does not read DONE, a record out of range, and a record in range. -/
theorem test_meets_RecallCompletes :
    (∀ r, (recalling r).running = true ∧ (recalling r).memory.op = some (linkOp .recall (.slot 127) .read) ∧
        (recalling r).memory.pendingOrder = []) ∧
      (readSlot 127 (recalling 0).memory).1.outcome ≠ .done ∧
      ((readSlot 127 (recalling (0x35 ||| 3 <<< 22)).memory).1.outcome = .done ∧ recordSetup (0x35 ||| 3 <<< 22) = none) ∧
      ((readSlot 127 (recalling record).memory).1.outcome = .done ∧ (readSlot 127 (recalling record).memory).1.record = record ∧
        recordSetup record = some VoiceSetup.initial ∧ recordMorphTime record ≤ 2000 ∧
        ready.assigner.setup.mode = VoiceSetup.initial.mode ∧ ready.assigner.setup.stack = VoiceSetup.initial.stack) :=
  ⟨fun _ => ⟨rfl, rfl, rfl⟩, by decide +kernel, by decide +kernel, by decide +kernel⟩

/-- R42 and R135: a record of MONO and two voices reassigns the held keys, with the release hold of the value before the recall. -/
theorem test_meets_RecallCompletes_reassigns :
    let setup : VoiceSetup := { VoiceSetup.initial with mode := .mono, stack := 2 }
    let r := makeRecord false 0 setup (List.replicate 12 0x20) (List.replicate 64 0)
    let s := withOp (linkOp .recall (.slot 127) .read) (holding 127 r chord)
    let t := after .recallComplete s
    (KeyListsConsistent s ∧ StartOrderWhole s ∧ ReleaseOrderExact s) ∧
      ((readSlot 127 s.memory).1.outcome = .done ∧ recordSetup (readSlot 127 s.memory).1.record = some setup ∧ recordMorphTime r ≤ 2000) ∧
      t.assigner.monoKey = some 72 ∧ t.assigner.monoStack = [3, 0] ∧ (t.voice 1).release = 205 ∧ t.param 8 = 0 := by
  decide +kernel

/-- A step recall's search with `examined` slots behind it. -/
def searching (examined : Nat) : MemOp := linkOp .stepRecall (.slot 127) (.search true 0 examined)

/-- Every case of MemoryReadsEnd: the two reads; a search that finds, goes on and ends; a heading that ends a PROTECT, begins
its erase, refuses a STORE_CURRENT and begins it. -/
theorem test_meets_MemoryReadsEnd :
    let full := supplied (holding 127 record ready)
    let guarded := supplied (holding 127 (record ||| 0x80) ready)
    let empty := supplied ready
    (∀ op ∈ [linkOp .patchRead (.slot 127) .read, linkOp .patchInfo (.slot 127) .read, searching 0, searching 127,
        linkOp .protect (.slot 127) .heading, linkOp .store (.slot 127) .heading],
      (withOp op full).running = true ∧ (withOp op full).memory.op = some op ∧ op.target = .slot 127 ∧
        (withOp op full).memory.pendingOrder = []) ∧
      (∀ s ∈ [full, guarded, empty], StoreCanonical s ∧ 2900 ≤ s.scanner.supply ∧ blockErrors s.memory.store (14 * 127) = 0 ∧
        blockErrors s.memory.store (14 * 127 + 1) = 0) ∧
      ((storeByte full.memory.store (14 * 127) 0).toNat % 128 = 0x35 ∧
        (storeByte full.memory.store (14 * 127) 0).getLsbD 7 = (linkOp .protect (.slot 127) .heading).setting) ∧
      ((storeByte empty.memory.store (14 * 127) 0).toNat % 128 ≠ 0x35 ∧ 126 < 127) ∧
      ((storeByte guarded.memory.store (14 * 127) 0).getLsbD 7 ≠ (linkOp .protect (.slot 127) .heading).setting ∧
        storeByte guarded.memory.store (14 * 127) 0 = 0xB5) ∧
      storeByte full.memory.store (14 * 127) 0 ≠ 0xB5 ∧
      (let low := holding 127 record ready
       low.scanner.supply < 2900 ∧ (readHeading 127 low.memory).1.outcome = .done) ∧
      (∀ e ∈ [(127 * 14, (1 : BitVec 72)), (127 * 14, 1#72 <<< 70 ||| 1#72 <<< 71), (127 * 14 + 1, 1#72 <<< 0 ||| 1#72 <<< 71)],
        let s := { full with memory := { full.memory with store := { full.memory.store with errors := [e] } } }
        StoreCanonical s ∧ blockErrors s.memory.store e.1 = e.2 ∧ (storeByte s.memory.store (14 * 127) 0).toNat % 128 = 0x35 ∧
          (readHeading 127 s.memory).1.outcome = if e.2 = 1 then .done else .corrupt) := by
  decide +kernel

/-- At the end of an operation a panel operation is pending, or the tune job's save with a panel operation behind it, the supply
good or low; the store of the current slot has one to write. -/
theorem test_meets_MemoryReadsEnd_pending :
    let s := fun (supply : Nat) (order : List PendingKind) (p : PanelOp) =>
      let s := withOp (linkOp .patchInfo (.slot 5) .read) (modJob (fun j => { j with saving := true }) (tuning .confirm 0))
      { s with
        scanner := { s.scanner with supply }
        params := { s.params with currentSlot := some 127 }
        memory := { s.memory with pendingOrder := order, pendingPanel := some p, pendingTune := true }
        link := { s.link with tx := some [] } }
    (∀ supply order p, (s supply order p).running = true ∧ StoreCanonical (s supply order p) ∧ (s supply order p).memory.op ≠ none ∧
        (s supply order p).link.tx ≠ none ∧ (s supply order p).memory.pendingPanel = some p) ∧
      (let t0 := after .patchInfoComplete { s 2900 [] .next with memory := { (s 2900 [] .next).memory with pendingOrder := [] } }
       t0.memory.op = none ∧ t0.params.currentSlot = some 127 ∧ t0.tune.job ≠ none) ∧
      (s 2900 [.panelOp, .tuneSave] .storeCurrent).memory.pendingOrder = .panelOp :: [.tuneSave] ∧
      (s 2900 [.tuneSave, .panelOp] .next).memory.pendingOrder = .tuneSave :: [.panelOp] ∧ 2900 ≤ (s 2900 [] .next).scanner.supply ∧
      (s 2899 [.tuneSave] .next).scanner.supply < 2900 :=
  ⟨fun _ _ _ => ⟨rfl, rfl, nofun, nofun, rfl⟩, by decide +kernel, rfl, rfl, by decide, by decide⟩

/-- The part in a phase of its start-up load. -/
def starting (ph : OpPhase) (st : Store) : State :=
  let s := withOp { MemOp.startUp with phase := ph } State.reset
  { s with memory := { s.memory with store := st } }

/-- Every case of StartUpLoads: no tag and a tag; no statuses and sixteen blocks of them; and the slot. -/
theorem test_meets_StartUpLoads :
    let blank : Store := { cells := [], errors := [] }
    let tagged := programBlock 1887 0xA55AA55AA55AA55A 0 blank
    let tuned := programBlocks [] ((List.range 16).map (1824 + ·)) (List.replicate 16 0x1010101010101010) blank
    (∀ ph st, (starting ph st).running = true ∧ (starting ph st).memory.op = some { MemOp.startUp with phase := ph }) ∧
      (∀ b : Nat, blockErrors blank b = 0 ∧ blockErrors tagged b = 0 ∧ blockErrors tuned b = 0) ∧
      ((List.range 8).map (storeByte blank 1887) ≠ [0x5A, 0xA5, 0x5A, 0xA5, 0x5A, 0xA5, 0x5A, 0xA5] ∧
        (List.range 8).map (storeByte tagged 1887) = [0x5A, 0xA5, 0x5A, 0xA5, 0x5A, 0xA5, 0x5A, 0xA5]) ∧
      (∃ j : Fin 128, ∀ x : TuneStatus, statusCode x ≠ storeByte blank (1792 + (256 + j.val) / 8) ((256 + j.val) % 8)) ∧
      (∀ j : Fin 128, ∃ x : TuneStatus, statusCode x = storeByte tuned (1792 + (256 + j.val) / 8) ((256 + j.val) % 8)) ∧
      blockErrors blank (14 * 0) = 0 ∧ (storeByte blank (14 * 0) 0).toNat % 128 ≠ 0x35 := by
  refine ⟨fun _ _ => ⟨rfl, rfl⟩, fun b => ?_, by decide +kernel, ⟨0, fun x => by cases x <;> decide +kernel⟩, fun j => ⟨.untuned, ?_⟩,
    rfl, by decide +kernel⟩
  rotate_left
  · revert j; decide +kernel
  · have h : (programBlock 1887 0xA55AA55AA55AA55A 0 { cells := [], errors := [] }).errors = [] ∧
        (programBlocks [] ((List.range 16).map (1824 + ·)) (List.replicate 16 0x1010101010101010) { cells := [], errors := [] }).errors = [] := by
      decide +kernel
    exact ⟨rfl, by rw [blockErrors, h.1]; rfl, by rw [blockErrors, h.2]; rfl⟩

/-- A power-on slot that reads DONE with a record in range and with one out of range, and one that reads CORRUPT. -/
theorem test_meets_StartUpLoads_slot :
    let s := fun r : BitVec 896 => holding 0 r (starting (.loadSlot .empty .ok) { cells := [], errors := [] })
    let bad := starting (.loadSlot .empty .ok) { cells := [], errors := [(0, 3)] }
    (readSlot 0 bad.memory).1.outcome = .corrupt ∧
      ((readSlot 0 (s (0x35 ||| 3 <<< 22)).memory).1.outcome = .done ∧ recordSetup (0x35 ||| 3 <<< 22) = none) ∧
      ((readSlot 0 (s record).memory).1.outcome = .done ∧ (readSlot 0 (s record).memory).1.record = record ∧
        recordSetup record = some VoiceSetup.initial ∧ recordMorphTime record ≤ 2000 ∧
        (s record).assigner.setup.mode = VoiceSetup.initial.mode ∧ (s record).assigner.setup.stack = VoiceSetup.initial.stack ∧
        KeyListsConsistent (s record) ∧ StartOrderWhole (s record) ∧ ReleaseOrderExact (s record)) := by
  decide +kernel

/-! #### Tuning -/

/-- Three of a job's voices make a pair and one alone; the first round of two voices, with force, of a chord; in MONO a stack. -/
theorem test_meets_TuneStarts_rounds :
    roundsOf [1, 4, 6] = [[1, 4], [6]] ∧
      ((after (.tuneStart 0x52 0 0 0 0) ready).tune.job.map Job.rounds) = some [[1, 4], [6]] ∧
      (∀ s ∈ [ready, chordFive, monoPlaying true [60] [0]], s.takes ∧ s.tune.job = none ∧ KeyListsConsistent s ∧
        (s.voice 0).enabled = true ∧ (s.voice 0).state ≠ .off ∧ (s.voice 0).state ≠ .tuning) ∧
      ((after (.tuneStart 0x01 0 1 0 0) chord).assigner.waiting = [60]) ∧
      (after (.tuneStart 0x01 0 1 0 0) (monoPlaying true [60] [0])).assigner.monoStack = [] := by
  decide

theorem test_meets_TuneStarts :
    (tuning .confirm 0).takes ∧ (tuning .confirm 0).tune.job ≠ none ∧ ready.takes ∧ ready.tune.job = none ∧
      ((List.finRange 8).filter fun v => (0x00 : Byte).getLsbD v.val && (ready.voice v).enabled) = [] ∧
      (let s := withVoice 7 (sounding 60 1) ready
       let vs := (List.finRange 8).filter fun v => (0x80 : Byte).getLsbD v.val && (s.voice v).enabled
       s.takes ∧ s.tune.job = none ∧ vs ≠ [] ∧ ∀ v ∈ vs, (s.voice v).state ≠ .off ∧ (s.voice v).state ≠ .tuning) ∧
      (let vs := (List.finRange 8).filter fun v => (0xFF : Byte).getLsbD v.val && (ready.voice v).enabled
       vs ≠ [] ∧ ∀ v ∈ vs, (ready.voice v).state ≠ .off ∧ (ready.voice v).state ≠ .tuning) := by
  decide

theorem test_meets_TuneJobCutShort :
    let s := tuning .confirm 0
    let saving := modJob (fun j => { j with saving := true }) s
    let waits := modJob (fun j => { j with marks := [(6, .reserved), (7, .taken)], wait := 0 })
      (withVoice 6 (fun x => { sounding 60 1 x with reserved := true }) s)
    (ready.takes ∧ ready.tune.job = none) ∧ (s.takes ∧ s.tune.job.map Job.saving = some false ∧ s.assigner.setup.mode = .poly ∧
        s.assigner.waiting = []) ∧
      (saving.takes ∧ saving.tune.job.map Job.saving = some true) ∧
      (waits.running = true ∧ waits.tune.job.map Job.saving = some false ∧ waits.tune.job.map Job.wait = some 0 ∧
        waits.tune.job.map (fun j => j.marks.any fun e => e.2 = .reserved) = some true ∧
        ∀ v, (waits.voice v).reserved = true → (waits.voice v).inPlay = true) := by
  decide

/-- A job in POLY with key 60 waiting, and in MONO with a stack short of one voice, each with voices 2 and 3 in TUNING. -/
def tuningPair (s : State) : State :=
  withVoice 2 (fun x => { x with state := .tuning, enabled := true }) (withVoice 3 (fun x => { x with state := .tuning, enabled := true })
    { s with tune := (tuning .confirm 0).tune })

theorem test_meets_TuneJobCutShort_returned :
    let poly := tuningPair chordFive
    let mono := tuningPair (withVoice 1 (fun _ => Voice.initial) (monoPlaying true [60] [0]))
    (∀ s ∈ [poly, mono], s.takes ∧ s.tune.job.map Job.saving = some false ∧ KeyListsConsistent s ∧ s.assigner.setup.stack ≤ 8) ∧
      MonoStackSounds poly ∧ MonoStackSounds mono ∧ poly.assigner.waiting = [60] ∧ mono.assigner.setup.stack = 2 ∧
      ((after .tuneAbort poly).voice 2).sounds 60 = true ∧ (after .tuneAbort mono).assigner.monoStack = [0, 2] ∧
      KeyListsConsistent (reservedRound 0) ∧ (after .waitLimitExpiry { reservedRound 0 with assigner := { ready.assigner with
        keyList := [{ key := 60, velocity := 1, voices := [6] }] } }).assigner.waiting = [60] := by
  refine ⟨by decide, stackSounds_of _ (by decide), stackSounds_of _ (by decide), ?_⟩
  decide

/-- Channel 2 in a phase of a trial. -/
def trial (phase : ChannelPhase) (index : TrialIndex) (cycle timer : Nat) : State :=
  modChannel 2 (fun ch => { ch with phase, cycle, timer }) (tuning index 27182)

theorem test_meets_TrialsAdvance :
    (∀ phase index cycle timer, let s := trial phase index cycle timer
      s.running = true ∧ (∃ j, s.tune.job = some j) ∧ s.tune.channels[(2 : Fin 4)].osc = some 6 ∧
        s.tune.channels[(2 : Fin 4)].phase = phase ∧ s.tune.channels[(2 : Fin 4)].index = index ∧
        s.tune.channels[(2 : Fin 4)].cycle = cycle ∧ s.tune.channels[(2 : Fin 4)].timer = timer ∧
        s.tune.channels[(2 : Fin 4)].point.val < 7 ∧ ∃ k : Fin 8, k.val = s.tune.channels[(2 : Fin 4)].point.val + 1) ∧
      (∀ d : Fin 4, (tuning .confirm 0).tune.channels[d].osc = some 6 → d = 2) ∧
      (LineServed (trial .counting (.search 0) 2 0) ∧ roundOver (trial .counting (.search 0) 2 0) = false) ∧
      TrialIndex.search 0 = .search 0 ∧ (1 : Nat) < 2 ∧ (1 : Nat) ≤ 1 := by
  refine ⟨fun _ _ _ _ => ⟨rfl, ⟨_, rfl⟩, rfl, rfl, rfl, rfl, rfl, Nat.lt_of_sub_eq_succ rfl, ⟨(tuning .confirm 0).tune.channels[(2 : Fin 4)].point + 1, rfl⟩⟩, by decide, by decide, rfl, by decide, by decide⟩

/-- The last channel of a round, at its last point: of the last round, with and without a save, and of the one before it. -/
theorem test_meets_RoundEnds :
    let s := fun (save : Bool) (round : Nat) => supplied (modJob (fun j => { j with round, save })
      (modChannel 2 (fun ch => { ch with phase := .firstEdge, timer := 0, point := 7 }) (tuning .confirm 0)))
    (∀ save, (s save 3).running = true ∧ (s save 3).tune.job.map Job.saving = some false ∧
      ((s save 3).tune.job.map fun j => j.marks.all fun e => e.2 = .taken) = some true ∧
      ((s save 3).tune.job.map fun j => j.rounds[j.round + 1]?.isNone) = some true ∧
      ((s save 3).tune.channels[(2 : Fin 4)].osc = some 6 ∧ (s save 3).tune.channels[(2 : Fin 4)].phase = .firstEdge ∧
        (s save 3).tune.channels[(2 : Fin 4)].timer = 0 ∧ (s save 3).tune.channels[(2 : Fin 4)].point = 7) ∧
      (∀ d : Fin 4, d ≠ 2 → (s save 3).tune.channels[d].phase = .idle) ∧ (s save 3).assigner.setup.mode = .poly ∧
      (s save 3).assigner.waiting = [] ∧ (s save 3).tune.job.map Job.save = some save ∧ (s save 3).memory.op = none ∧
      2900 ≤ (s save 3).scanner.supply) ∧
      ((s true 2).tune.job.map fun j => j.rounds[j.round + 1]?) = some (some [6, 7]) ∧
      (∀ v ∈ [(6 : Fin 8), 7], ((s true 2).voice v).state ≠ .off ∧ ((s true 2).voice v).state ≠ .tuning) ∧
      ((s true 2).tune.job.map fun j => j.marks.all fun e => e.1 != 6 && e.1 != 7) = some true ∧
      (withOp (linkOp .recall (.slot 0) .read) (s true 3)).memory.op ≠ none := by
  decide +kernel

/-- The last channel of a round that ends, over a chord with a key waiting, over a short MONO stack, and over a part at rest, with
voices that are OFF in the rounds to come. -/
def roundEnding (round : Nat) (off : List (Fin 8)) (s : State) : State :=
  modJob (fun j => { j with round })
    (modChannel 2 (fun ch => { ch with phase := .firstEdge, timer := 0, point := 7 })
      (tuningPair (off.foldl (fun s v => withVoice v (fun x => { x with state := .off, enabled := false }) s) s)))

/-- The voices of the rounds after the one that ends, as they stand once voices 2 and 3 are back: `none` past the last round. -/
def laterSkips (i : Nat) (s : State) : Option (List Bool) :=
  let freed := { s with table := { s.table with voices := tab fun v => if (s.voice v).state = VoiceState.tuning then
    { s.voice v with state := .free } else s.voice v } }
  ((s.tune.job.map Job.rounds).getD [])[((s.tune.job.map Job.round).getD 0) + 1 + i]?.map fun vs =>
    vs.map fun v => ((freed.returned (heldKeys s) [2, 3]).voice v).skipped

theorem test_meets_RoundEnds_rounds :
    let short := withVoice 1 (fun _ => Voice.initial) (monoPlaying true [60] [0])
    let states := [roundEnding 2 [] chordFive, roundEnding 2 [] short, roundEnding 1 [4, 5, 6] ready, roundEnding 2 [6, 7] ready]
    (∀ s ∈ states, s.running = true ∧ KeyListsConsistent s ∧ s.assigner.setup.stack ≤ 8 ∧ s.scanner.supply < 2900 ∧
        s.tune.job.map Job.saving = some false ∧ s.tune.job.map Job.save = some true ∧ s.memory.op = none ∧
        s.tune.channels[(2 : Fin 4)].phase = .firstEdge ∧ s.tune.channels[(2 : Fin 4)].timer = 0 ∧
        ∀ d : Fin 4, d ≠ 2 → s.tune.channels[d].phase = .idle) ∧
      (∀ s ∈ states, MonoStackSounds s) ∧
      laterSkips 0 (roundEnding 2 [] chordFive) = some [true, true] ∧ laterSkips 0 (roundEnding 2 [] short) = some [false, false] ∧
      (laterSkips 0 (roundEnding 1 [4, 5, 6] ready) = some [true, true] ∧
        laterSkips 1 (roundEnding 1 [4, 5, 6] ready) = some [true, false]) ∧
      laterSkips 0 (roundEnding 2 [6, 7] ready) = some [true, true] ∧ laterSkips 1 (roundEnding 2 [6, 7] ready) = none := by
  refine ⟨by decide, fun s hs => stackSounds_of s ?_, by decide⟩
  revert s; decide

/-- R154 and R165: rounds [4, 5] and voice 6, all OFF, are SKIPPED and voice 7 is taken; and with every later voice OFF and the
supply low the save ends the job SUPPLY_LOW. -/
theorem test_rounds_skipped :
    let t := after (.firstEdgeTimeout 2) (roundEnding 1 [4, 5, 6] ready)
    let u := after (.firstEdgeTimeout 2) (roundEnding 2 [6, 7] ready)
    t.tune.job.map Job.round = some 3 ∧ t.tune.job.map Job.marks = some [(6, .skipped), (7, .taken)] ∧
      t.tune.channels[(2 : Fin 4)].osc = some 14 ∧ (t.voice 2).state = .free ∧ u.tune.job = none ∧ u.memory.op = none := by
  decide

end Sys2Proof.Tests
end

section
/-! SUPPORT. The arithmetic of the Control-Voltage Engine, each function of it said once, and the statements about it: the offsets
of a pitch (R48 to R51), the voltage map (R54, R55), and the codes of the LEVEL and GLOBAL slots (R59, R60). -/

namespace Sys2Proof.Machine

/-! ### Clamps and the start of a slot -/

theorem clampInt_eq_max_min {lo hi : Int} (h : lo ≤ hi) (x : Int) : clampInt lo hi x = max lo (min hi x) := by
  unfold clampInt
  split
  · omega
  · split <;> omega

theorem clampCode_fst (x : Int) : ((clampCode x).1 : Int) = max 0 (min 65535 x) := by
  have h := clampInt_eq_max_min (lo := 0) (hi := 65535) (by decide) x
  simp only [clampCode]
  omega

@[simp] theorem loadSlot_dac (code : Nat) (carried : Bool) (s : State) : (loadSlot code carried s).refresh.dac = code := rfl

section
variable {s : State}

theorem startSlot_pitch {isB : Bool} (h : s.refresh.slot.val % 6 = if isB then 1 else 0) :
    startSlot s = startPitchSlot (slotVoice s.refresh.slot) isB s := by
  cases isB with
  | false =>
    replace h : s.refresh.slot.val % 6 = 0 := h
    simp only [startSlot, h]
  | true =>
    replace h : s.refresh.slot.val % 6 = 1 := h
    simp only [startSlot, h]

theorem startSlot_level (h : s.refresh.slot.val % 6 = 3) :
    startSlot s = loadSlot (levelCode s (slotVoice s.refresh.slot)) false s := by
  simp only [startSlot, h]

theorem startSlot_global (h : s.refresh.slot.val % 6 = 4 ∨ s.refresh.slot.val % 6 = 5) :
    startSlot s = loadSlot (globalCode (s.param (globalParam s.refresh.slot))) false s := by
  rcases h with h | h <;> simp only [startSlot, h]

end

/-- The voice that slots 6v to 6v + 5 serve (R65). -/
theorem slotVoice_eq {slot : Fin 48} {v : Fin 8} {k : Nat} (hk : k < 6) (h : slot.val = 6 * v.val + k) : slotVoice slot = v := by
  apply Fin.ext
  simp only [slotVoice]
  omega

/-- Outside TUNING a pitch slot loads the code of the pitch path, whatever the overrides hold (R72). -/
theorem startPitchSlot_dac {s : State} {v : Fin 8} (h : (s.voice v).state ≠ .tuning) (isB : Bool) :
    (startPitchSlot v isB s).refresh.dac = (pitchPath s v isB).1 := by
  simp [startPitchSlot, h]

/-! ### The pitch of an oscillator -/

/-- The part of the pitch that both oscillators of a voice share, but for the bend offset (R52). -/
def sharedPitch (s : State) (v : Fin 8) : Int :=
  basePitch (s.voice v) + spreadOffset (s.voice v).stackPos s.assigner.setup.stack (s.param 9)

/-- What an oscillator adds of its own (R48, R49, R52). -/
def ownPitch (s : State) (isB : Bool) : Int :=
  if isB then fineOffset (s.param 1) + intervalSemitones (s.param 2) * 256 else fineOffset (s.param 0)

@[simp] theorem ownPitch_oscA (s : State) : ownPitch s false = fineOffset (s.param 0) := rfl

@[simp] theorem ownPitch_oscB (s : State) :
    ownPitch s true = fineOffset (s.param 1) + intervalSemitones (s.param 2) * 256 := rfl

theorem rawPitch_eq (s : State) (v : Fin 8) (isB : Bool) :
    rawPitch s v isB = sharedPitch s v + ownPitch s isB + bendOffset s.assigner.bend s.assigner.setup.bendRange := by
  cases isB <;> simp only [rawPitch, sharedPitch, ownPitch, if_true, Bool.false_eq_true, if_false] <;> ring

theorem modParam_param_of_ne {p q : Fin 64} (h : p ≠ q) (f : Param → Param) (s : State) : (modParam p f s).param q = s.param q := by
  rw [State.param, modParam_record, if_neg h, State.param]

/-- Parameter 2 is no part of the pitch of oscillator A. -/
theorem rawPitch_modParam_interval (s : State) (v : Fin 8) (f : Param → Param) :
    rawPitch (modParam 2 f s) v false = rawPitch s v false := by
  have hv : (modParam 2 f s).voice v = s.voice v := voice_of_table rfl v
  have h0 : (modParam 2 f s).param 0 = s.param 0 := modParam_param_of_ne (by decide) f s
  have h9 : (modParam 2 f s).param 9 = s.param 9 := modParam_param_of_ne (by decide) f s
  simp [rawPitch, hv, h0, h9]

/-! ### The fine offsets and the interval of oscillator B (R48, R49) -/

theorem fineOffset_bounds {v : Nat} (h : v ≤ 4095) : -256 ≤ fineOffset v ∧ fineOffset v ≤ 255 := by
  have hlow : Int.tdiv (-2048) 8 ≤ fineOffset v := Int.tdiv_le_tdiv (by decide) (by omega)
  have hhigh : fineOffset v ≤ Int.tdiv 2047 8 := Int.tdiv_le_tdiv (by decide) (by omega)
  exact ⟨hlow, hhigh⟩

theorem fineOffset_eq_zero_iff (v : Nat) : fineOffset v = 0 ↔ 2041 ≤ v ∧ v ≤ 2055 := by
  have h : (fineOffset v).natAbs = ((v : Int) - 2048).natAbs / 8 := Int.natAbs_tdiv _ _
  omega

theorem intervalSemitones_bounds {v : Nat} (h : v ≤ 4095) : -24 ≤ intervalSemitones v ∧ intervalSemitones v ≤ 24 := by
  unfold intervalSemitones
  omega

/-- The first value of parameter 2 in band `m`: 4096m / 49 rounded up. -/
def intervalBandStart (m : Nat) : Nat := (4096 * m + 48) / 49

theorem intervalSemitones_eq_iff (v m : Nat) :
    intervalSemitones v = (m : Int) - 24 ↔ intervalBandStart m ≤ v ∧ v < intervalBandStart (m + 1) := by
  unfold intervalSemitones intervalBandStart
  omega

theorem intervalBand_width (m : Nat) :
    intervalBandStart (m + 1) = intervalBandStart m + 83 ∨ intervalBandStart (m + 1) = intervalBandStart m + 84 := by
  unfold intervalBandStart
  omega

theorem intervalBandStart_le {m : Nat} (h : m ≤ 49) : intervalBandStart m ≤ 4096 := by
  unfold intervalBandStart
  omega

theorem intervalSemitones_band {k : Int} (hlo : -24 ≤ k) (hhi : k ≤ 24) :
    ∃ a n : Nat, (n = 83 ∨ n = 84) ∧ a + n ≤ 4096 ∧
      ∀ v : Nat, v ≤ 4095 → (intervalSemitones v = k ↔ a ≤ v ∧ v < a + n) := by
  obtain ⟨m, hm⟩ : ∃ m : Nat, k = (m : Int) - 24 := ⟨(k + 24).toNat, by omega⟩
  have hwidth := intervalBand_width m
  have hend : intervalBandStart (m + 1) ≤ 4096 := intervalBandStart_le (by omega)
  refine ⟨intervalBandStart m, intervalBandStart (m + 1) - intervalBandStart m, by omega, by omega, fun v _ => ?_⟩
  rw [hm, intervalSemitones_eq_iff]
  omega

/-! ### The spread (R50) -/

/-- Positions `j` and S - 1 - `j` of a stack lie opposite each other: truncation, unlike the floor, keeps the symmetry. -/
theorem spreadOffset_opposite {j stack : Nat} (h : j < stack) (v9 : Nat) :
    spreadOffset (stack - 1 - j) stack v9 = -spreadOffset j stack v9 := by
  have hpos : 2 * ((stack - 1 - j : Nat) : Int) - ((stack : Int) - 1) = -(2 * (j : Int) - ((stack : Int) - 1)) := by omega
  rw [spreadOffset, spreadOffset, hpos, Int.neg_mul, Int.neg_tdiv]

theorem spreadOffset_bounds {j stack v9 : Nat} (hj : j ≤ 7) (hlo : 1 ≤ stack) (hhi : stack ≤ 8) (hv : v9 ≤ 4095) :
    -111 ≤ spreadOffset j stack v9 ∧ spreadOffset j stack v9 ≤ 223 := by
  rw [spreadOffset]
  generalize hc : 2 * (j : Int) - ((stack : Int) - 1) = c
  have hlow : -7 * 4095 ≤ c * (v9 : Int) :=
    calc (-7 * 4095 : Int) ≤ -7 * v9 := by omega
      _ ≤ c * v9 := Int.mul_le_mul_of_nonneg_right (by omega) (by omega)
  have hhigh : c * (v9 : Int) ≤ 14 * 4095 :=
    calc c * (v9 : Int) ≤ 14 * v9 := Int.mul_le_mul_of_nonneg_right (by omega) (by omega)
      _ ≤ 14 * 4095 := by omega
  exact ⟨Int.tdiv_le_tdiv (by decide) hlow, Int.tdiv_le_tdiv (by decide) hhigh⟩

/-! ### The bend offset (R51) -/

theorem natAbs_roundHalfAway32 (x : Int) : (roundHalfAway32 x).natAbs = (x.natAbs + 16) / 32 := by
  unfold roundHalfAway32
  split <;> omega

theorem roundHalfAway32_neg (x : Int) : roundHalfAway32 (-x) = -roundHalfAway32 x := by
  unfold roundHalfAway32
  split <;> split <;> omega

theorem roundHalfAway32_mono {x y : Int} (h : x ≤ y) : roundHalfAway32 x ≤ roundHalfAway32 y := by
  unfold roundHalfAway32
  split <;> split <;> omega

theorem roundHalfAway32_mul (n : Int) : roundHalfAway32 (n * 32) = n := by
  unfold roundHalfAway32
  split <;> omega

/-- |bend| is |b × R| / 32 rounded half up: the greatest n with 32n ≤ |b × R| + 16. -/
theorem natAbs_bendOffset_bounds (b : Int) (r : Nat) :
    2 * (32 * (bendOffset b r).natAbs) ≤ 2 * (b * r).natAbs + 32 ∧
      2 * (b * r).natAbs + 32 < 2 * (32 * ((bendOffset b r).natAbs + 1)) := by
  rw [bendOffset, natAbs_roundHalfAway32]
  omega

theorem bendOffset_neg (b : Int) (r : Nat) : bendOffset (-b) r = -bendOffset b r := by
  rw [bendOffset, Int.neg_mul, roundHalfAway32_neg, bendOffset]

theorem bendOffset_zero_left (r : Nat) : bendOffset 0 r = 0 := by
  rw [bendOffset, Int.zero_mul]
  rfl

theorem bendOffset_zero_right (b : Int) : bendOffset b 0 = 0 := by
  simp [bendOffset, roundHalfAway32]

/-- At full scale the bend offset is `r` semitones. -/
theorem bendOffset_full (r : Nat) : bendOffset 8192 r = r * 256 := by
  have h : (8192 : Int) * r = r * 256 * 32 := by ring
  rw [bendOffset, h, roundHalfAway32_mul]

theorem bendOffset_nonneg {b : Int} (h : 0 ≤ b) (r : Nat) : 0 ≤ bendOffset b r :=
  roundHalfAway32_mono (Int.mul_nonneg h (Int.natCast_nonneg r))

theorem bendOffset_bounds {b : Int} {r : Nat} (hlo : -8192 ≤ b) (hhi : b ≤ 8191) (hr : r ≤ 24) :
    -6144 ≤ bendOffset b r ∧ bendOffset b r ≤ 6143 := by
  have hlow : -8192 * 24 ≤ b * (r : Int) :=
    calc (-8192 * 24 : Int) ≤ -8192 * r := by omega
      _ ≤ b * r := Int.mul_le_mul_of_nonneg_right hlo (by omega)
  have hhigh : b * (r : Int) ≤ 8191 * 24 :=
    calc b * (r : Int) ≤ 8191 * r := Int.mul_le_mul_of_nonneg_right hhi (by omega)
      _ ≤ 8191 * 24 := by omega
  exact ⟨roundHalfAway32_mono hlow, roundHalfAway32_mono hhigh⟩

/-- The bend is added to both oscillators of a voice alike. -/
theorem rawPitch_bend (s : State) (v : Fin 8) (isB : Bool) (b : Int) (r : Nat) :
    rawPitch { s with assigner := { s.assigner with bend := b, setup := { s.assigner.setup with bendRange := r } } } v isB =
      rawPitch { s with assigner := { s.assigner with bend := 0 } } v isB + bendOffset b r := by
  rw [rawPitch_eq, rawPitch_eq _ _ isB, bendOffset_zero_left, Int.add_zero]
  rfl

/-! ### The voltage map (R54, R55) -/

/-- The floor of the map's divisions is the model's `/`. -/
theorem fdiv_3072 (x : Int) : Int.fdiv x 3072 = x / 3072 := Int.fdiv_eq_ediv_of_nonneg x (by decide)

theorem segmentOf_eq (p : Int) : (segmentOf p : Int) = max 0 (min 6 ((p - 6144) / 3072)) := by
  rw [segmentOf, clampInt_eq_max_min (by decide)]
  omega

theorem segmentOf_lt (p : Int) : segmentOf p < 7 := by
  have := segmentOf_eq p
  omega

theorem segmentOf_below {p : Int} (h : p < 6144) : segmentOf p = 0 := by
  have := segmentOf_eq p
  omega

theorem segmentOf_above {p : Int} (h : 24576 ≤ p) : segmentOf p = 6 := by
  have := segmentOf_eq p
  omega

/-- Inside the map the distance from the segment's lower end stays within the segment. -/
theorem segment_distance_bounds {p : Int} (hlo : 6144 ≤ p) (hhi : p < 24576) :
    0 ≤ p - 6144 - 3072 * (segmentOf p : Int) ∧ p - 6144 - 3072 * (segmentOf p : Int) ≤ 3071 := by
  have := segmentOf_eq p
  omega

/-- The code on segment `i`: its lower entry and the part n / 3072 rounded half up. -/
theorem mapCode_of_segment {e : Fin 8 → Nat} {p : Int} {i : Fin 7} (h : segmentOf p = i.val) :
    mapCode e p =
      e i.castSucc + (((e i.succ : Int) - e i.castSucc) * (p - 6144 - 3072 * (i.val : Int)) + 1536) / 3072 := by
  have hlower : Fin.ofNat 8 i.val = i.castSucc := Fin.ext (Nat.mod_eq_of_lt (by omega))
  have hupper : Fin.ofNat 8 (i.val + 1) = i.succ := Fin.ext (Nat.mod_eq_of_lt (by omega))
  simp only [mapCode, h, hlower, hupper]

/-- At the lower end of segment `i` the part is 0 rounded. -/
theorem mapCode_segment_start (e : Fin 8 → Nat) (i : Fin 7) : mapCode e (6144 + 3072 * (i.val : Int)) = e i.castSucc := by
  have hseg : segmentOf (6144 + 3072 * (i.val : Int)) = i.val := by
    have := segmentOf_eq (6144 + 3072 * (i.val : Int))
    omega
  have hf : 6144 + 3072 * (i.val : Int) - 6144 - 3072 * (i.val : Int) = 0 := by omega
  rw [mapCode_of_segment hseg, hf, Int.mul_zero]
  simp

/-- The last point lies on segment 6, at its upper end. -/
theorem mapCode_last (e : Fin 8 → Nat) : mapCode e (6144 + 3072 * 7) = e 7 := by
  have hpart : (6144 + 3072 * 7 - 6144 - 3072 * ((6 : Fin 7).val : Int)) = 3072 := rfl
  have hlast : (6 : Fin 7).succ = 7 := rfl
  rw [mapCode_of_segment (i := 6) (by decide), hpart, hlast]
  omega

theorem mapCode_point (e : Fin 8 → Nat) (k : Fin 8) : mapCode e (6144 + 3072 * (k.val : Int)) = e k := by
  induction k using Fin.lastCases with
  | last => exact mapCode_last e
  | cast i => exact mapCode_segment_start e i

/-- The code of the pitch path: the map over the oscillator's own entries at the clamped pitch, clamped (R52, R54, R55). -/
theorem pitchPath_code (s : State) (v : Fin 8) (isB : Bool) :
    ((pitchPath s v isB).1 : Int) =
      max 0 (min 65535 (mapCode (fun k => s.tune.table[if isB then oscB v else oscA v][k].entry)
        (max 0 (min 32767 (rawPitch s v isB))))) := by
  rw [← clampInt_eq_max_min (lo := 0) (hi := 32767) (by decide), ← clampCode_fst]
  rfl

/-- The code a pitch slot of a voice outside TUNING loads at its start. -/
theorem startSlot_pitch_dac {s : State} {v : Fin 8} (isB : Bool) (hslot : s.refresh.slot.val = 6 * v.val + if isB then 1 else 0)
    (hv : (s.voice v).state ≠ .tuning) : (startSlot s).refresh.dac = (pitchPath s v isB).1 := by
  have hkind : (if isB then 1 else 0) < 6 := by split <;> decide
  rw [startSlot_pitch (isB := isB) (by omega), slotVoice_eq hkind hslot, startPitchSlot_dac hv]

/-! ### LEVEL and GLOBAL slots (R59, R60) -/

/-- The lowest level: velocity 1 with parameter 7 at 4095 takes 126 × 4095 × 16 div 127 = 65004 off. -/
theorem level_lower_bound {velocity v7 : Nat} (hvel : 1 ≤ velocity) (hv : v7 ≤ 4095) :
    531 ≤ 65535 - (127 - velocity) * v7 * 16 / 127 := by
  have h : (127 - velocity) * v7 ≤ 126 * 4095 := Nat.mul_le_mul (by omega) hv
  omega

theorem level_full {velocity v7 : Nat} (h : v7 = 0 ∨ velocity = 127) : 65535 - (127 - velocity) * v7 * 16 / 127 = 65535 := by
  rcases h with rfl | rfl <;> simp

theorem globalParam_eq {slot : Fin 48} {i : Fin 16} (h : slot.val = 6 * (i.val / 2) + 4 + i.val % 2) :
    globalParam slot = ⟨16 + i.val, by omega⟩ := by
  apply Fin.ext
  simp only [globalParam]
  omega

theorem globalCode_le {v : Nat} (h : v ≤ 4095) : globalCode v ≤ 65535 := by
  unfold globalCode
  omega

theorem globalCode_succ (v : Nat) : globalCode (v + 1) = globalCode v + 16 ∨ globalCode (v + 1) = globalCode v + 17 := by
  unfold globalCode
  omega

/-! ### The statements -/

/-- Settles O38, from the two parts of a pitch that `rawPitch_eq` gives and the exact arithmetic of each offset. -/
theorem pitchOffsets : Obligations.PitchOffsets := by
  unfold Obligations.PitchOffsets
  refine ⟨⟨fun s v => ?_, fun _ => rfl, fun v h => ?_, by decide⟩,
    ⟨fun s v f => ⟨?_, rawPitch_modParam_interval s v f⟩, fun v => intervalSemitones_bounds, by decide, by decide, by decide,
      by decide, fun k => intervalSemitones_band⟩,
    ⟨fun _ _ _ => rfl, fun j stack v9 h => spreadOffset_opposite h v9, fun j stack v9 => spreadOffset_bounds, by decide⟩,
    ⟨fun b r => ?_, fun b r => bendOffset_bounds, bendOffset_zero_right, bendOffset_full, by decide, rawPitch_bend⟩⟩
  · constructor <;> simp only [rawPitch_eq, sharedPitch, ownPitch_oscA, ownPitch_oscB, basePitch, fineOffset] <;> ring
  · obtain ⟨hlo, hhi⟩ := fineOffset_bounds h
    exact ⟨hlo, hhi, fineOffset_eq_zero_iff v⟩
  · simp only [rawPitch_eq, ownPitch_oscA, ownPitch_oscB, intervalSemitones]
    ring
  · obtain ⟨hle, hlt⟩ := natAbs_bendOffset_bounds b r
    exact ⟨hle, hlt, bendOffset_neg b r, fun h => bendOffset_nonneg h r⟩

/-- Settles O39: the segment is the clamped floor, the code on it is `mapCode_of_segment`, and a pitch slot loads the code of its
pitch path. -/
theorem voltageMap : Obligations.VoltageMap := by
  unfold Obligations.VoltageMap
  refine ⟨fun e p _ hp => ?_, mapCode_point, fun s v isB hv => ?_⟩
  · have hseg := segmentOf_eq p
    have hcode := mapCode_of_segment (e := e) (p := p) (i := ⟨segmentOf p, segmentOf_lt p⟩) rfl
    simp only [fdiv_3072, ← hseg]
    refine ⟨⟨segmentOf p, segmentOf_lt p⟩, rfl, rfl, hcode, fun hlow => ?_, segment_distance_bounds, fun hhigh => ?_⟩
    · have h0 := segmentOf_below hlow
      exact ⟨h0, by omega⟩
    · have h6 := segmentOf_above hhigh
      exact ⟨h6, by omega, by omega⟩
  · intro o slot p
    have hdac := startSlot_pitch_dac (s := { s with refresh := { s.refresh with slot := slot } }) isB rfl hv
    exact (congrArg Nat.cast hdac).trans (pitchPath_code _ v isB)

/-- Settles O40: a LEVEL slot and a GLOBAL slot load one code each and change nothing else, and the codes are exact arithmetic. -/
theorem levelAndGlobalCodes : Obligations.LevelAndGlobalCodes := by
  unfold Obligations.LevelAndGlobalCodes
  refine ⟨fun s v => ?_, fun s i => ?_, by decide, by decide, by decide, fun v h => ⟨globalCode_le (by omega), globalCode_succ v⟩⟩
  · intro slot x code
    refine ⟨?_, fun hvel _ hv => level_lower_bound hvel hv, level_full⟩
    rw [startSlot_level (by dsimp only [slot]; omega), slotVoice_eq (v := v) (k := 3) (by decide) rfl]
    rfl
  · intro slot v
    rw [startSlot_global (by dsimp only [slot]; omega), globalParam_eq (i := i) rfl]
    rfl

end Sys2Proof.Machine
end
